-- ==== Sys2Proof/Word.lean ====
section
/-! DEFINITION. The word types of the block: bytes, 16-bit timers, 32-bit rates (R8, R12, R26). -/

namespace Sys2Proof

/-- One byte; bit 0 is its least significant bit (R12). -/
abbrev Byte := BitVec 8

/-- A timer register: an unsigned 16-bit count of milliseconds (R26, R307). -/
abbrev Millis := BitVec 16

/-- A bit rate in bits per second, 32 bits (R8). -/
abbrev Rate := BitVec 32

/-- The byte whose value is `n` modulo 256. -/
abbrev byte (n : Nat) : Byte := BitVec.ofNat 8 n

end Sys2Proof
end

