-- ==== Sys2Proof/Config.lean ====
section
/-! DEFINITION. What is fixed for a run: the configuration record of R8, and the constants without a body that stand
for what the spec leaves open. -/

namespace Sys2Proof

/-- `QUEUE_MODE` (R8): `Fifo` 0, `Reject` 1. -/
inductive QueueMode where
  | fifo
  | reject
  deriving DecidableEq, Repr

/-- `SYNC_VALIDATOR` (R8, D26): `none` is the only configuration the spec defines. -/
inductive SyncValidator where
  | none
  deriving DecidableEq, Repr

/-! ### Payload builders (R8 `MEM_REQ_PAYLOAD`, D28) as plain data -/

/-- A piece of a built payload. -/
inductive PayloadPiece where
  /-- fixed bytes -/
  | literal (bytes : List Byte)
  /-- the `address` operand as presented (R243) -/
  | address
  /-- byte `i` of the `address` operand -/
  | addressByte (i : Nat)
  /-- the second operand, `size` or `data`, as presented -/
  | operand
  /-- byte `i` of the second operand -/
  | operandByte (i : Nat)
  /-- byte `i`, from the least significant, of the number of bytes of the second operand -/
  | countByte (i : Nat)
  deriving DecidableEq, Repr, Inhabited

/-- A function from two operands to a payload, written down (log 3): a layout of pieces, another builder changed at one
pair of operands (so that operands of fixed widths admit every function), or the integrator's function of a number. -/
inductive PayloadBuilder where
  | layout (pieces : List PayloadPiece)
  | override (address operand payload : List Byte) (otherwise : PayloadBuilder)
  | supplied (n : Nat)
  deriving DecidableEq, Repr, Inhabited

/-- `MEM_REQ_PAYLOAD` (R8, D28): the widths of `address` and `size` in bytes, which it fixes, and the functions
`clear()`, `read(address, size)` and `write(address, data)`; `clear` has no operand, so it is its bytes. -/
structure MemReqPayload where
  addressBytes : Nat
  sizeBytes    : Nat
  clear        : List Byte
  readBuilder  : PayloadBuilder
  writeBuilder : PayloadBuilder
  deriving DecidableEq, Repr, Inhabited

namespace Config

/-! ### What the frame layout and the registers fix -/

/-- The longest payload the length byte of a frame can count (R85, R127); the greatest value of `MAX_PAYLOAD`. -/
abbrev maxPayload : Nat := 254
/-- The number of bytes of `tx_frame` (R28). -/
abbrev txFrameSize : Nat := 260

/-! ### OPEN parameters (R8, D28): each implementation supplies them, so none has a body (log 3, 4) -/

/-- `QUEUE_DEPTH` less one: the depth is a natural number of at least 1 (R8, D19). -/
opaque openQueueDepthLessOne : Nat
/-- `SID_CLEAR_DTC` (R8, R236). -/
opaque openSidClearDtc : Byte
/-- `SID_READ_MEM` (R8, R238). -/
opaque openSidReadMem : Byte
/-- `SID_WRITE_MEM` (R8, R239). -/
opaque openSidWriteMem : Byte
/-- `CLK_HZ`; no rule reads it (R8, R361). -/
opaque openClkHz : Nat
/-- `MEM_REQ_PAYLOAD` with the operand widths it fixes (R8, R52, D28). -/
opaque openMemReqPayload : MemReqPayload
/-- The n-th payload builder an integrator supplies as a function that is not written down as a layout (R8, D28). -/
opaque suppliedPayload : Nat → List Byte → List Byte → List Byte

/-! ### Free values (U2, U3): the environment draws them -/

/-- The `ok` bit of the n-th Transport call where the environment has supplied none (R13, U2; log 9). -/
opaque freeOk : Nat → Bool
/-- The line level after a failed `T.setLineState`, the n-th call (U3; log 10). -/
opaque freeLineLow : Nat → Bool
/-- The baud rate after a failed `T.setBaudRate`, the n-th call (U3; log 10). -/
opaque freeBaud : Nat → Rate

end Config

/-- The bytes of a piece; a byte that an operand does not have is no byte. -/
def PayloadPiece.bytes (address operand : List Byte) : PayloadPiece → List Byte
  | .literal bytes => bytes
  | .address => address
  | .addressByte i => (address.drop i).take 1
  | .operand => operand
  | .operandByte i => (operand.drop i).take 1
  | .countByte i => [byte (operand.length / 256 ^ i)]

/-- The payload a builder makes of two operands. -/
def PayloadBuilder.build (address operand : List Byte) : PayloadBuilder → List Byte
  | .layout pieces => pieces.flatMap (PayloadPiece.bytes address operand)
  | .override a o payload otherwise =>
      if address = a ∧ operand = o then payload else otherwise.build address operand
  | .supplied n => Config.suppliedPayload n address operand

/-- `MEM_REQ_PAYLOAD.read(address, size)` (R238); none for operands that have not the widths it fixes (D28). -/
def MemReqPayload.read (m : MemReqPayload) (address size : List Byte) : Option (List Byte) :=
  if address.length = m.addressBytes ∧ size.length = m.sizeBytes then some (m.readBuilder.build address size)
  else none

/-- `MEM_REQ_PAYLOAD.write(address, data)` (R239); none for an address that has not the width it fixes (D28). -/
def MemReqPayload.write (m : MemReqPayload) (address data : List Byte) : Option (List Byte) :=
  if address.length = m.addressBytes then some (m.writeBuilder.build address data) else none

/-- The configuration record of R8, a constant of a run (D33): what an integrator sets. Where a rule writes the number
that R8 gives a field, the model reads the field (log 2). -/
structure Cfg where
  formatByte       : Byte
  testerAddr       : Byte
  ecuAddrDefault   : Byte
  sessionType      : Byte
  baudSteady       : Rate
  tBit             : Millis
  nDataBits        : BitVec 4
  tSettle          : Millis
  tPulseLow        : Millis
  tPulseHigh       : Millis
  tP3Min           : Millis
  tRespTimeout     : Millis
  queueMode        : QueueMode
  queueDepth       : Nat
  posRespOffset    : Byte
  negRespSid       : Byte
  sidReadDtc       : Byte
  sidTesterPresent : Byte
  sidStartComm     : Byte
  sidClearDtc      : Byte
  sidReadMem       : Byte
  sidWriteMem      : Byte
  memReqPayload    : MemReqPayload
  maxPayload       : Byte
  syncValidator    : SyncValidator
  clkHz            : Nat
  deriving DecidableEq, Repr

/-- The column "value" of R8's table; the OPEN rows are the constants without a body. -/
def Cfg.standard : Cfg where
  formatByte       := 0x80#8
  testerAddr       := 0xF1#8
  ecuAddrDefault   := 0x12#8
  sessionType      := 0x01#8
  baudSteady       := 10400#32
  tBit             := 200#16
  nDataBits        := 8#4
  tSettle          := 25#16
  tPulseLow        := 25#16
  tPulseHigh       := 25#16
  tP3Min           := 55#16
  tRespTimeout     := 1000#16
  queueMode        := .fifo
  queueDepth       := Config.openQueueDepthLessOne + 1
  posRespOffset    := 0x40#8
  negRespSid       := 0x7F#8
  sidReadDtc       := 0x18#8
  sidTesterPresent := 0x3E#8
  sidStartComm     := 0x81#8
  sidClearDtc      := Config.openSidClearDtc
  sidReadMem       := Config.openSidReadMem
  sidWriteMem      := Config.openSidWriteMem
  memReqPayload    := Config.openMemReqPayload
  maxPayload       := 254#8
  syncValidator    := .none
  clkHz            := Config.openClkHz

/-- The bounds on a configuration: no timer is ever loaded with 0 and the queue holds at least one (R8, R11); a byte has
eight data bits (R25, R90); the length byte can count the longest payload (R85), which has room for the one byte of the
StartCommunication request (R162). -/
abbrev Cfg.wf (c : Cfg) : Prop :=
  c.tBit ≠ 0#16 ∧ c.tSettle ≠ 0#16 ∧ c.tPulseLow ≠ 0#16 ∧ c.tPulseHigh ≠ 0#16 ∧
  c.tP3Min ≠ 0#16 ∧ c.tRespTimeout ≠ 0#16 ∧ 1 ≤ c.queueDepth ∧
  c.nDataBits.toNat ≤ 8 ∧ c.maxPayload.toNat ≤ Config.maxPayload ∧ 1 ≤ c.maxPayload.toNat

end Sys2Proof
end

