-- ==== Sys2Proof/Syntax.lean ====
section
/-! DEFINITION. The data the rules speak of (errors, results, records) and the instruction type `Instr`, one
constructor per row of spec/opcode_table.json. -/

namespace Sys2Proof

/-- The reasons of `InitFailed`, the values of `fail_reason` (R27, R293). -/
inductive FailReason where
  | none
  | transportNotOpen
  | ioSetLineState
  | ioSetBaudRate
  | ioWrite
  | cancelled
  deriving DecidableEq, Repr, Inhabited

/-- The reason of a run that fails because `ENCODE` has no room for the StartCommunication payload: R281 says `Fail(r)`
and R293 lists no reason for it, so it is any value (log 21). No well-formed configuration comes here (R162). -/
opaque Config.freeEncodeFailReason : FailReason

/-- The error taxonomy, closed, eleven members (R280). -/
inductive KlError where
  | transportNotOpen
  | transportIoFailure
  | invalidPayload
  | frameTooShort
  | checksumMismatch
  | lengthMismatch
  | negativeResponse (errorCode : Byte)
  | responseTimeout
  | busy
  | initFailed (reason : FailReason)
  | cancelled
  deriving DecidableEq, Repr

/-- The errors of `DECODE` (R122, R285 to R287). -/
inductive DecodeErr where
  | frameTooShort
  | checksumMismatch
  | lengthMismatch
  deriving DecidableEq, Repr

/-- The result of `ENCODE` (R121): a frame, or `InvalidPayload`. -/
inductive EncodeResult where
  | frame (bytes : List Byte)
  | invalidPayload
  deriving DecidableEq, Repr

/-- The result of `DECODE` (R122). -/
inductive FrameResult where
  | service (serviceId : Byte) (payload : List Byte)
  | negative (requestedServiceId errorCode : Byte)
  | error (e : DecodeErr)
  deriving DecidableEq, Repr

/-- The code of a DTC: five ASCII characters `c0 c1 c2 c3 c4` (R94). -/
structure DtcCode where
  c0 : Byte
  c1 : Byte
  c2 : Byte
  c3 : Byte
  c4 : Byte
  deriving DecidableEq, Repr

/-- A diagnostic trouble code: the pair of R104 and R264. -/
structure Dtc where
  code       : DtcCode
  statusByte : Byte
  deriving DecidableEq, Repr

/-- The outcome of a request delivered in `Result(r)` (R104, R242). `dtcs` is absent (`none`) or a sequence. -/
inductive RequestResult where
  | response (serviceId : Byte) (payload : List Byte) (dtcs : Option (List Dtc))
  | negative (requestedServiceId errorCode : Byte)
  | sent
  | err (e : KlError)
  deriving DecidableEq, Repr

/-- The three header bytes of an inbound frame that `DECODE` does not examine (R81, R82). -/
structure Header where
  format : Byte
  target : Byte
  source : Byte
  deriving DecidableEq, Repr

/-- The instructions, one constructor per row of spec/opcode_table.json, in the table's order (R9, R100, R101). -/
inductive Instr where
  -- commands (R100)
  | startInit5Baud (ecuAddress : Byte)
  | startInitFast (ecuAddress : Byte)
  | cancelInit
  | cancelRequest
  | sendService (serviceId : Byte) (payload : List Byte)
  | readDtcs
  | clearDtcs
  | testerPresent
  | readMemory (address size : List Byte)
  | writeMemory (address data : List Byte)
  -- pure functions (R101)
  | checksum (b : List Byte)
  | encode (target source serviceId : Byte) (payload : List Byte)
  | decode (b : List Byte)
  | dtcDecode (payload : List Byte)
  | dtcCode (h l : Byte)
  -- frames (R80, R88, R89, R93, R95)
  | frame (hdr : Header) (length serviceId : Byte) (payload : List Byte) (checksum : Byte)
  | sidReadDtcs
  | rspReadDtcs (hdr : Header) (payload : List Byte)
  | sidTesterPresent
  | rspTesterPresent (hdr : Header) (payload : List Byte)
  | sidStartCommunication
  | rspStartCommunication (hdr : Header) (payload : List Byte)
  | negativeResponse (hdr : Header) (requestedServiceId errorCode : Byte) (rest : List Byte)
  | positiveResponse (hdr : Header) (serviceId : Byte) (payload : List Byte)
  -- event handlers and procedures (R155 to R162, R176, R159, R210, R215, R225, R227)
  | tickSendingAddressNextBit
  | tickSendingAddressDone
  | tickAwaitingSync
  | tickPulseLow
  | tickPulseHigh
  | tauIsmWrite
  | fail (reason : FailReason)
  | tauDispatch
  | rx (block : List Byte)
  | tickSd
  | resolve (r : RequestResult)
  -- Transport calls (R311 to R316)
  | tIsOpen
  | tSetBaudRate (bps : Rate)
  | tSetLineState (low : Bool)
  | tWrite (bytes : List Byte)
  | tSubscribeRead (block : List Byte)
  | tClose
  deriving DecidableEq, Repr

end Sys2Proof
end

