-- ==== Sys2Proof/Machine/DtcDecoder.lean ====
section
/-! DEFINITION. The DTC Decoder (DD): `DTC_DECODE` and `DTC_CODE`, pure functions without state (R260 to R264). -/

namespace Sys2Proof.Machine

/-- The letter of the category `h[7:6]`: `P`, `C`, `B`, `U` (R94, R261). -/
def categoryLetter (h : Byte) : Byte :=
  if h.toNat / 64 = 0 then 0x50#8
  else if h.toNat / 64 = 1 then 0x43#8
  else if h.toNat / 64 = 2 then 0x42#8
  else 0x55#8

/-- The ASCII hexadecimal digit of a value below 16, letters in upper case (R94, D29). -/
def hexDigit (d : Nat) : Byte :=
  if d < 10 then byte (0x30 + d) else byte (0x41 + (d - 10))

/-- `DTC_CODE(h, l)`: the category letter and the 14-bit number `{h[5:0], l}` as four digits (R261). -/
def dtcCodeOf (h l : Byte) : DtcCode where
  c0 := categoryLetter h
  c1 := hexDigit (h.toNat / 16 % 4)
  c2 := hexDigit (h.toNat % 16)
  c3 := hexDigit (l.toNat / 16)
  c4 := hexDigit (l.toNat % 16)

/-- The first `count` groups `(highByte, lowByte, statusByte)` of a byte sequence, in order (R93, R260 line 4). -/
def dtcGroups : Nat → List Byte → List Dtc
  | k + 1, h :: l :: s :: rest => ⟨dtcCodeOf h l, s⟩ :: dtcGroups k rest
  | _, _ => []

/-- `DTC_DECODE` of a payload (R260): empty when there is no count byte or the groups are not all there. -/
def dtcDecodeOf : List Byte → List Dtc
  | [] => []
  | count :: rest => if (count :: rest).length < 1 + 3 * count.toNat then [] else dtcGroups count.toNat rest

end Sys2Proof.Machine
end

