-- ==== Sys2Proof/Machine/State.lean ====
section
/-! DEFINITION. The state of the block as plain data (R20 to R40), the outputs (R104), the events (R10), the faults
and refusals, and the state after reset (R39, R330). -/

namespace Sys2Proof.Machine

/-- The eight states of `ism_state` (R21). -/
inductive IsmState where
  | idle
  | sendingAddress
  | awaitingSync
  | pulseLow
  | pulseHigh
  | sendingStartComm
  | ready
  | failed
  deriving DecidableEq, Repr

/-- The four values of LinkState (R22). -/
inductive LinkState where
  | uninitialized
  | synchronizing
  | ready
  | failed
  deriving DecidableEq, Repr

/-- `init_mode` (R23). -/
inductive InitMode where
  | fiveBaud
  | fast
  deriving DecidableEq, Repr

/-- An entry of the request queue; immutable once enqueued (R32). -/
structure ServiceRequest where
  serviceId       : Byte
  payload         : List Byte
  expectsResponse : Bool
  deriving DecidableEq, Repr

/-- The bytes of a buffer by address: addresses strictly rising, no entry equal to what an unlisted address reads as. -/
abbrev Memory := List Host.Cell

/-- A call of the Transport with its result (R13, R311 to R316). -/
inductive TransportCall where
  | isOpen (result : Bool)
  | setBaudRate (bps : Rate) (ok : Bool)
  | setLineState (low ok : Bool)
  | write (bytes : List Byte) (ok : Bool)
  | close
  deriving DecidableEq, Repr

/-- The value of an `Ack` (R102). -/
inductive AckValue where
  | ok
  | noEffect
  | err (e : KlError)
  deriving DecidableEq, Repr

/-- The value of a `Notify` (R104). -/
inductive Notification where
  | synchronizing
  | ready
  | failed (reason : FailReason)
  deriving DecidableEq, Repr

/-- The two status strings of the block (R107). -/
inductive StatusText where
  /-- "Starting 5-baud init..." -/
  | startingFiveBaud
  /-- "K-Line initialization successful" -/
  | initSuccessful
  deriving DecidableEq, Repr

/-- Why an inbound block was discarded (R104, R218, R219). -/
inductive LogKind where
  | decodeError (e : DecodeErr)
  | unmatched
  deriving DecidableEq, Repr

/-- The outputs of the block (R10, R104). -/
inductive Output where
  | call (c : TransportCall)
  | ack (v : AckValue)
  | notify (n : Notification)
  | result (r : RequestResult)
  | rawRx (block : List Byte)
  | status (t : StatusText)
  | log (k : LogKind)
  | reinitRequest
  deriving DecidableEq, Repr

/-- What a combinational unit (a pure function exposed to the caller, R101) shows at its output. -/
inductive UnitValue where
  | checksum (v : Byte)
  | encoded (r : EncodeResult)
  | decoded (r : FrameResult)
  | dtcs (l : List Dtc)
  | code (c : DtcCode)
  deriving DecidableEq, Repr

/-- The events of R10, and what the platform does from outside: the block's reset (R330), and the opening or closing of
the Transport (R316, R333(d)). -/
inductive Event where
  | cmd (bytes : List Byte)
  | rx (block : List Byte)
  | tick
  | tau
  | transportOpen (b : Bool)
  | reset
  deriving DecidableEq, Repr

/-- Events that are ready together (R297): commands at the command port, inbound blocks, at most one Tick; and what the
platform does in that instant, a reset or a change of the Transport's open flag. -/
structure Instant where
  reset         : Bool := false
  transportOpen : Option Bool := none
  cmds          : List (List Byte) := []
  rx            : List (List Byte) := []
  tick          : Bool := false
  deriving DecidableEq, Repr

/-- The machine's state. -/
structure State where
  /-- the configuration, a constant of a run (R8; log 1) -/
  cfg          : Cfg
  /-- `ism_state` (R21) -/
  ismState     : IsmState
  /-- `init_mode` (R23) -/
  initMode     : InitMode
  /-- `ecu_addr` (R24) -/
  ecuAddr      : Byte
  /-- `bit_idx` (R25) -/
  bitIdx       : BitVec 4
  /-- `init_timer` (R26) -/
  initTimer    : Millis
  /-- `fail_reason` (R27) -/
  failReason   : FailReason
  /-- `tx_frame` (R28, R50); its content outside the window from building to writing is the model's choice (log 7, 30) -/
  txFrame      : Memory
  /-- `tx_len` (R28) -/
  txLen        : BitVec 9
  /-- `pending.valid` (R29) -/
  pendingValid : Bool
  /-- `pending.sid` (R29) -/
  pendingSid   : Byte
  /-- `resp_timer` (R30) -/
  respTimer    : Millis
  /-- `guard_timer` (R31) -/
  guardTimer   : Millis
  /-- `queue`, the head first (R32) -/
  queue        : List ServiceRequest
  /-- `T.open` (R37) -/
  tOpen        : Bool
  /-- `T.baud` (R37) -/
  tBaud        : Rate
  /-- `T.line_low` (R37) -/
  tLineLow     : Bool
  /-- MODEL's own: whether `ecu_addr` has been written since reset (R38 I5; log 5) -/
  ecuAddrWritten : Bool
  /-- MODEL's own: what the combinational units show (R101; log 19) -/
  unitOut      : Option UnitValue
  /-- MODEL's own: the output history, oldest first (R10, R37; log 20) -/
  outputs      : List Output
  /-- MODEL's own: the event presented to the block now (R10; log 13) -/
  presented    : Option Event
  /-- MODEL's own: the instants to come, the first being the present one (R297; log 13) -/
  inputs       : List Instant
  /-- MODEL's own: the answer bits the environment has supplied (R10; log 9) -/
  answers      : List Bool
  /-- MODEL's own: the number of Transport calls that took an answer, the argument of the free values (log 9) -/
  callNo       : Nat
  deriving DecidableEq, Repr

/-- Why the machine stops. -/
inductive Fault where
  /-- Raised by the write of `tx_frame[0..tx_len]` in `SendingStartComm` when `tx_len` is above 260: an access outside
  the buffer, which no rule makes (R50). Safe: unreachable by the invariant of R38. -/
  | outsideTxFrame
  deriving DecidableEq, Repr

/-- Why an instruction has no meaning. -/
inductive Refusal where
  /-- Raised by `exec` for an instruction without a meaning. Safe. No arm raises it. -/
  | notModelled (mnemonic : String)
  deriving DecidableEq, Repr

/-- The state after reset (R39, R330): no output, nothing pending, `Idle`. The values of `ecuAddr`, `pendingSid`, the
content of `txFrame` and the Transport's three fields are the model's (log 5, 6, 7, 8). -/
def State.reset : State where
  cfg            := Cfg.standard
  ismState       := .idle
  initMode       := .fiveBaud
  ecuAddr        := 0x00#8
  bitIdx         := 0#4
  initTimer      := 0#16
  failReason     := .none
  txFrame        := []
  txLen          := 0#9
  pendingValid   := false
  pendingSid     := 0x00#8
  respTimer      := 0#16
  guardTimer     := 0#16
  queue          := []
  tOpen          := false
  tBaud          := 0#32
  tLineLow       := false
  ecuAddrWritten := false
  unitOut        := none
  outputs        := []
  presented      := none
  inputs         := []
  answers        := []
  callNo         := 0

end Sys2Proof.Machine
end

