-- ==== Sys2Proof/Machine/Flags.lean ====
section
/-! DEFINITION. LinkState and the status flags, functions of the registers (R22, R33), and when an internal action is
enabled (R176, R210). -/

namespace Sys2Proof.Machine

/-- LinkState as a function of `ism_state` (R21, R22). -/
def linkOf : IsmState → LinkState
  | .idle => .uninitialized
  | .sendingAddress => .synchronizing
  | .awaitingSync => .synchronizing
  | .pulseLow => .synchronizing
  | .pulseHigh => .synchronizing
  | .sendingStartComm => .synchronizing
  | .ready => .ready
  | .failed => .failed

/-- LinkState (R22). -/
def State.linkState (s : State) : LinkState := linkOf s.ismState

/-- `queue_empty` (R33). -/
def State.queueEmpty (s : State) : Bool := s.queue.length = 0

/-- `queue_full` (R33). -/
def State.queueFull (s : State) : Bool := s.queue.length = s.cfg.queueDepth

/-- `guard_open` (R33). -/
def State.guardOpen (s : State) : Bool := s.guardTimer = 0#16

/-- `sd_idle` (R33). -/
def State.sdIdle (s : State) : Bool := !s.pendingValid && s.queueEmpty

/-- `link_ready` (R33). -/
def State.linkReady (s : State) : Bool := s.ismState = .ready

/-- The four ISM states in which `init_timer` is enabled (R26, R295(b)). -/
def timedState : IsmState → Bool
  | .sendingAddress => true
  | .awaitingSync => true
  | .pulseLow => true
  | .pulseHigh => true
  | .idle => false
  | .sendingStartComm => false
  | .ready => false
  | .failed => false

/-- `Tau(IsmWrite)` is enabled (R176). -/
def State.ismWriteEnabled (s : State) : Bool := s.ismState = .sendingStartComm

/-- `Tau(Dispatch)` is enabled (R210). -/
def State.dispatchEnabled (s : State) : Bool :=
  s.linkReady && !s.pendingValid && !s.queueEmpty && s.guardOpen

/-- Some internal action is enabled; no `Tick` is accepted then (R11). -/
def State.tauEnabled (s : State) : Bool := s.ismWriteEnabled || s.dispatchEnabled

/-- The identifier a positive response to the request with SID `pending.sid` carries, modulo 256; `POS_RESP_OFFSET` is
0x40 in R8 (R88, D14; log 2). -/
def State.awaitedSid (s : State) : Byte := s.pendingSid + s.cfg.posRespOffset

/-- The identifier of the positive response that is awaited, if a request is pending (R88). -/
def State.expectedSid (s : State) : Option Byte :=
  if s.pendingValid then some s.awaitedSid else none

end Sys2Proof.Machine
end

