-- ==== Sys2Proof/Machine/FrameCodec.lean ====
section
/-! DEFINITION. The Frame Codec (FC): `CHECKSUM`, `ENCODE`, `DECODE`, pure functions without state (R120 to R128). -/

namespace Sys2Proof.Machine

/-- The sum of the bytes over the natural numbers (R86). -/
def byteSum : List Byte → Nat
  | [] => 0
  | b :: r => b.toNat + byteSum r

/-- `CHECKSUM(b)`: the sum modulo 256; 0 for the empty sequence (R120). -/
def checksumOf (b : List Byte) : Byte :=
  byte (byteSum b)

/-- The bytes of a frame before its checksum, `format` to the last payload byte (R80, R83). -/
def frameBody (hdr : Header) (sid : Byte) (payload : List Byte) : List Byte :=
  hdr.format :: hdr.target :: hdr.source :: byte (1 + payload.length) :: sid :: payload

/-- A frame: its body and the checksum of the body (R80, R86). -/
def buildFrame (hdr : Header) (sid : Byte) (payload : List Byte) : List Byte :=
  frameBody hdr sid payload ++ [checksumOf (frameBody hdr sid payload)]

/-- `ENCODE(target, source, serviceId, payload)` under a configuration: `format` is `CFG.FORMAT_BYTE`, the longest
payload `CFG.MAX_PAYLOAD`, 254 in R8 (R121; log 2). -/
def encodeFrame (c : Cfg) (target source sid : Byte) (payload : List Byte) : EncodeResult :=
  if payload.length > c.maxPayload.toNat then .invalidPayload
  else .frame (buildFrame ⟨c.formatByte, target, source⟩ sid payload)

/-- `DECODE(b)`, lines 5 to 9: what a block that passed the checks carries; `neg` is the identifier of a
negative response, `CFG.NEG_RESP_SID`, 0x7F in R8 (R122, R88, R89; log 2). -/
def decodeBody (neg sid : Byte) (payload : List Byte) : FrameResult :=
  if sid = neg then
    match payload with
    | rs :: ec :: _ => .negative rs ec
    | _ => .error .frameTooShort
  else .service sid payload

/-- The payload bytes of a block of at least 6 bytes, indices 5 to n-2 (R80). -/
def payloadOf (b : List Byte) : List Byte :=
  b.dropLast.drop 5

/-- `DECODE(b)`: the checks in the order of R122, the first that fails decides the error. -/
def decodeFrame (neg : Byte) (b : List Byte) : FrameResult :=
  if b.length < 5 then .error .frameTooShort
  else if b.getLastD 0#8 ≠ checksumOf b.dropLast then .error .checksumMismatch
  else if b.length = 5 then .error .lengthMismatch
  else if (b.getD 3 0#8).toNat ≠ b.length - 5 then .error .lengthMismatch
  else decodeBody neg (b.getD 4 0#8) (payloadOf b)

end Sys2Proof.Machine
end

