-- ==== Sys2Proof/Machine/Operands.lean ====
section
/-! DEFINITION. The operand forms: the bits of the 5-baud address character (R90), the queue entry of a request (R201),
and what the memory commands expand to (R106). -/

namespace Sys2Proof.Machine

/-- `Level(a, i)`, the line level of bit period `i` of the address character for address `a`: start bit low, `n` data
bits least significant first, stop bit high; `n` is `N_DATA_BITS`, 8 in R8 (R90; log 2, 28). -/
def level (n : Nat) (a : Byte) (i : Nat) : Bool :=
  if i = 0 then false
  else if i ≤ n then a.getLsbD (i - 1)
  else true

/-- The argument `low` of `T.setLineState` for bit period `i` (R90). -/
def levelLow (n : Nat) (a : Byte) (i : Nat) : Bool := !level n a i

/-- The queue entry of a request; `expectsResponse` is false for `testerPresent` only, `SID_TESTER_PRESENT` being 0x3E
in R8 (R201 line 5, D20; log 2). -/
def requestOf (c : Cfg) (sid : Byte) (payload : List Byte) : ServiceRequest where
  serviceId       := sid
  payload         := payload
  expectsResponse := sid ≠ c.sidTesterPresent

/-- The request `READ_DTCS` enqueues; `SID_READ_DTC` is 0x18 in R8 (R235; log 2). -/
def readDtcsRequest (c : Cfg) : ServiceRequest := requestOf c c.sidReadDtc []

/-- The request `TESTER_PRESENT` enqueues (R237). -/
def testerPresentRequest (c : Cfg) : ServiceRequest := requestOf c c.sidTesterPresent []

end Sys2Proof.Machine
end

