-- ==== Sys2Proof/Machine/Ops.lean ====
section
/-! DEFINITION. The named operations over buffers, registers, timers, the Transport and the outputs, the failure entry
`Fail` (R159) and the resolution `Resolve` (R227). -/

namespace Sys2Proof.Machine

/-- The outcome of a meaning. -/
abbrev StepOutcome := Host.Outcome State Fault Refusal

/-! ### `tx_frame` as memory: the canonical list of cells -/

/-- What an unlisted byte of `tx_frame` reads as (log 7). -/
def blankByte : Byte := 0x00#8

/-- Read one byte. -/
def Memory.read : Memory → Nat → Byte
  | [], _ => blankByte
  | c :: m, a => if c.1 = a then c.2 else Memory.read m a

/-- Put a cell where its address belongs in the rising order. -/
def Memory.insert (c : Host.Cell) : Memory → Memory
  | [] => [c]
  | d :: m => if c.1 < d.1 then c :: d :: m else d :: Memory.insert c m

/-- Write one byte, keeping the canonical form: the value an unlisted byte reads as removes the entry. -/
def Memory.write (m : Memory) (a : Nat) (v : Byte) : Memory :=
  if v = blankByte then m.filter (fun c => c.1 ≠ a)
  else Memory.insert (a, v) (m.filter (fun c => c.1 ≠ a))

/-- `MemRead(buf, i, n)` (R13). -/
def Memory.readBytes (m : Memory) : Nat → Nat → List Byte
  | _, 0 => []
  | i, n + 1 => m.read i :: Memory.readBytes m (i + 1) n

/-- `MemWrite(buf, i, n, v)` with `n = len(v)` (R13). -/
def Memory.writeBytes : Memory → Nat → List Byte → Memory
  | m, _, [] => m
  | m, i, v :: vs => Memory.writeBytes (m.write i v) (i + 1) vs

/-- The canonical form: addresses strictly rising, no entry equal to what an unlisted byte reads as. -/
def Memory.wf : Memory → Bool
  | [] => true
  | c :: m => (c.2 ≠ blankByte) && (m.all fun d => c.1 < d.1) && Memory.wf m

/-- Every listed byte lies in `tx_frame` (R28, R50). -/
def Memory.inTxFrame (m : Memory) : Bool := m.all fun c => c.1 < Config.txFrameSize

/-! ### Outputs and timers -/

/-- `emit o` (R13). -/
def State.emit (s : State) (o : Output) : State := { s with outputs := s.outputs ++ [o] }

/-- One Tick of an enabled timer: a timer that is non-zero decrements by 1 (R11). -/
def countDown (t : Millis) : Millis := if t = 0#16 then 0#16 else t - 1#16

/-- The Tick on which a timer goes from 1 to 0 (R11). -/
def expires (t : Millis) : Bool := t = 1#16

/-! ### The Transport (R13, R37, R310 to R316) -/

/-- The answer bit the environment gives to the next call (R13, U2): the one supplied, else a free value. -/
def State.answer (s : State) : Bool :=
  match s.answers with
  | a :: _ => a
  | [] => Config.freeOk s.callNo

/-- The answer has been taken. -/
def State.takeAnswer (s : State) : State :=
  { s with answers := s.answers.tail, callNo := s.callNo + 1 }

/-- `T.isOpen()` (R311). -/
def callIsOpen (s : State) : State := s.emit (.call (.isOpen s.tOpen))

/-- `T.setBaudRate(bps)` (R312); its result is `s.answer`. After a failure the rate is unknown (U3; log 10). -/
def callSetBaudRate (bps : Rate) (s : State) : State :=
  { s.takeAnswer with tBaud := if s.answer then bps else Config.freeBaud s.callNo }.emit
    (.call (.setBaudRate bps s.answer))

/-- `T.setLineState(low)` (R313); its result is `s.answer`. After a failure the level is unknown (U3; log 10). -/
def callSetLineState (low : Bool) (s : State) : State :=
  { s.takeAnswer with tLineLow := if s.answer then low else Config.freeLineLow s.callNo }.emit
    (.call (.setLineState low s.answer))

/-- `T.write(bytes)` (R314); its result is `s.answer`, whether the Transport is open or not (R13, D4, U2; log 11). -/
def callWrite (bytes : List Byte) (s : State) : State :=
  s.takeAnswer.emit (.call (.write bytes s.answer))

/-- `close()` of the Transport (R316; log 12). -/
def callClose (s : State) : State := { s with tOpen := false }.emit (.call .close)

/-- The Transport's read channel delivers a block: an `Rx` event of the present instant (R315; log 12). -/
def deliver (block : List Byte) (s : State) : State :=
  match s.inputs with
  | [] => { s with inputs := [{ rx := [block] }] }
  | now :: later => { s with inputs := { now with rx := now.rx ++ [block] } :: later }

/-! ### Failure entry, readiness and resolution: the block's exceptions and their return (R9, R299 to R301) -/

/-- `Fail(r)`, the failure entry of the ISM (R159, R299). `tx_frame` keeps its bytes, which is the model's choice: its
content outside the window from building to writing is not specified (R28, U28; log 30). -/
def failWith (r : FailReason) (s : State) : State :=
  { s with ismState := .failed, failReason := r, initTimer := 0#16, txLen := 0#9 }.emit (.notify (.failed r))

/-- Entry to `Ready` (R157, R176, R183). -/
def enterReady (s : State) : State :=
  ({ s with ismState := .ready }.emit (.notify .ready)).emit (.status .initSuccessful)

/-- `Resolve(r)`, the end of a request's life (R227, R300). -/
def resolveWith (r : RequestResult) (s : State) : State :=
  { s with pendingValid := false, respTimer := 0#16, guardTimer := s.cfg.tP3Min }.emit (.result r)

/-- The acceptance checks of `START_INIT(mode, a)` and its common effect, R152 lines 1 to 5; `variant` is line 6. This
is also the way out of `Failed` (R301). -/
def startInit (mode : InitMode) (a : Byte) (variant : State → State) (s : State) : State :=
  if s.linkState = .synchronizing then s.emit (.ack (.err .busy))
  else if !s.sdIdle then s.emit (.ack (.err .busy))
  else if !s.tOpen then
    failWith .transportNotOpen ((callIsOpen s).emit (.ack (.err .transportNotOpen)))
  else
    variant (({ callIsOpen s with ecuAddr := a, ecuAddrWritten := true, initMode := mode, failReason := .none }.emit
      (.ack .ok)).emit (.notify .synchronizing))

/-! ### `tx_frame` (R28, R57) -/

/-- Put a built frame into `tx_frame` (R162, R210). -/
def loadTx (f : List Byte) (s : State) : State :=
  { s with txFrame := s.txFrame.writeBytes 0 f, txLen := BitVec.ofNat 9 f.length }

/-- `tx_frame[0..tx_len]`. -/
def State.txBytes (s : State) : List Byte := s.txFrame.readBytes 0 s.txLen.toNat

/-- `T.write(tx_frame[0..tx_len]); tx_len <- 0`; its result is `s.answer` (R176, R210). `tx_frame` keeps the bytes of
the written frame, which is the model's choice: its content after the write is not specified (R28, U28; log 30). -/
def sendTx (s : State) : State := { callWrite s.txBytes s with txLen := 0#9 }

/-! ### Timed ISM states -/

/-- A Tick of `init_timer`; `onExpiry` is what its expiry does (R11, R155, R157, R161, R162). -/
def tickInit (onExpiry : State → State) (s : State) : State :=
  if expires s.initTimer then onExpiry { s with initTimer := 0#16 }
  else { s with initTimer := countDown s.initTimer }

/-- The StartCommunication frame, built by `ENCODE` like every request frame, is put into `tx_frame` to be written (R92,
R126, R162); `SID_START_COMM` is 0x81 in R8 (log 2). `ENCODE` of its one payload byte cannot raise where `MAX_PAYLOAD` is
at least 1, as in every well-formed configuration (R162); where it does, the run fails, as R281 says of an error in the
ISM, with a reason that R293 does not give (log 21). -/
def loadStartComm (s : State) : State :=
  match encodeFrame s.cfg s.ecuAddr s.cfg.testerAddr s.cfg.sidStartComm [s.cfg.sessionType] with
  | .frame f => { loadTx f s with ismState := .sendingStartComm }
  | .invalidPayload => failWith Config.freeEncodeFailReason s

/-- The write of the StartCommunication frame and what follows (R176). -/
def ismWrite (s : State) : State :=
  if s.answer then enterReady (sendTx s) else failWith .ioWrite (sendTx s)

/-- The read of `tx_frame[0..tx_len]` stays in the buffer (R50), or the model faults (log 24). -/
def writeTx (s : State) : StepOutcome :=
  if s.txLen.toNat > Config.txFrameSize then .fault .outsideTxFrame else .next (ismWrite s)

/-! ### Requests -/

/-- `SEND_SERVICE(serviceId, payload)` (R201); `MAX_PAYLOAD` is 254 in R8 (log 2). -/
def acceptRequest (sid : Byte) (payload : List Byte) (s : State) : State :=
  if payload.length > s.cfg.maxPayload.toNat then s.emit (.ack (.err .invalidPayload))
  else if s.linkState ≠ .ready then s.emit (.ack (.err .busy))
  else if s.cfg.queueMode = .reject && (s.pendingValid || !s.queueEmpty) then s.emit (.ack (.err .busy))
  else if s.queueFull then s.emit (.ack (.err .busy))
  else { s with queue := s.queue ++ [requestOf s.cfg sid payload] }.emit (.ack .ok)

/-- A memory command whose payload has been built; with operands of other widths than `CFG.MEM_REQ_PAYLOAD` fixes it is
no command and has no effect (R8, R96(g), D28; log 15). -/
def acceptBuilt (sid : Byte) (payload : Option (List Byte)) (s : State) : State :=
  match payload with
  | some p => acceptRequest sid p s
  | none => s

/-- After the write of a request's frame (R210, R211, R212); `ok` is the result of the write. -/
def afterWrite (req : ServiceRequest) (ok : Bool) (s : State) : State :=
  if !ok then (resolveWith (.err .transportIoFailure) s).emit .reinitRequest
  else if req.expectsResponse then
    { s with pendingValid := true, pendingSid := req.serviceId, respTimer := s.cfg.tRespTimeout }
  else resolveWith .sent s

/-- `Tau(Dispatch)` once enabled: the head of the queue is removed, encoded and written (R210). A queued payload is
never too long (R201); what R281 says of an error after acceptance stands in that case (log 21). -/
def dispatch (s : State) : State :=
  match s.queue with
  | [] => s
  | req :: rest =>
    match encodeFrame s.cfg s.ecuAddr s.cfg.testerAddr req.serviceId req.payload with
    | .frame f => afterWrite req s.answer (sendTx (loadTx f { s with queue := rest }))
    | .invalidPayload => resolveWith (.err .invalidPayload) { s with queue := rest }

/-- The DTCs a `Result` carries: those of the payload when the request was a read-DTCs request, `pending.sid =
CFG.SID_READ_DTC` (R215, R216). -/
def State.resultDtcs (s : State) (payload : List Byte) : Option (List Dtc) :=
  if s.pendingSid = s.cfg.sidReadDtc then some (dtcDecodeOf payload) else none

/-- What a parsed block does (R215 to R219). -/
def handleFrame (d : FrameResult) (s : State) : State :=
  match d with
  | .error e => s.emit (.log (.decodeError e))
  | .negative rs ec =>
      if s.pendingValid then resolveWith (.negative rs ec) s else s.emit (.log .unmatched)
  | .service sid payload =>
      if s.pendingValid && sid = s.awaitedSid then
        resolveWith (.response sid payload (s.resultDtcs payload)) s
      else s.emit (.log .unmatched)

/-- `Rx(block)`: the raw copy, then the parsed block (R215, R220). -/
def receive (block : List Byte) (s : State) : State :=
  handleFrame (decodeFrame s.cfg.negRespSid block) (s.emit (.rawRx block))

/-- The SD part of a Tick (R225). -/
def tickDispatcher (s : State) : State :=
  let counted := { s with guardTimer := countDown s.guardTimer }
  if s.pendingValid then
    if expires s.respTimer then resolveWith (.err .responseTimeout) { counted with respTimer := 0#16 }
    else { counted with respTimer := countDown s.respTimer }
  else counted

/-- The block's reset: every register to its reset value, no output, the Transport untouched (R330, R332). The model's
own fields stay too, by the model's choice (log 26): what is still to come, the output history, the number of calls
`callNo`, and what the combinational units last showed, `unitOut`; only `ecuAddrWritten` is cleared. -/
def resetBlock (s : State) : State :=
  { State.reset with
    cfg := s.cfg, tOpen := s.tOpen, tBaud := s.tBaud, tLineLow := s.tLineLow, unitOut := s.unitOut, outputs := s.outputs,
    presented := s.presented, inputs := s.inputs, answers := s.answers, callNo := s.callNo }

/-- Show a value at the output of the combinational units (R101; log 19). -/
def showUnit (v : UnitValue) (s : State) : State := { s with unitOut := some v }

end Sys2Proof.Machine
end

