-- ==== Sys2Proof/Machine/Commands.lean ====
section
/-! DEFINITION. The commands of the Initialization State Machine and `CANCEL_REQUEST` (R152, R153, R160, R180, R230). -/

namespace Sys2Proof.Machine

/-- R153: the start bit. -/
def beginFiveBaud (s : State) : State :=
  let started := { s.emit (.status .startingFiveBaud) with bitIdx := 0#4 }
  if started.answer then
    { callSetLineState true started with ismState := .sendingAddress, initTimer := s.cfg.tBit }
  else failWith .ioSetLineState (callSetLineState true started)

/-- R160: the low pulse. -/
def beginFast (s : State) : State :=
  if s.answer then
    { callSetLineState true s with ismState := .pulseLow, initTimer := s.cfg.tPulseLow }
  else failWith .ioSetLineState (callSetLineState true s)

/-- `START_INIT_5BAUD(a)` (R152, R153). -/
def execStartInit5Baud (a : Byte) (s : State) : StepOutcome :=
  .next (startInit .fiveBaud a beginFiveBaud s)

/-- `START_INIT_FAST(a)` (R152, R160). -/
def execStartInitFast (a : Byte) (s : State) : StepOutcome :=
  .next (startInit .fast a beginFast s)

/-- `CANCEL_INIT` (R180): the cleanup calls' results are ignored. -/
def execCancelInit (s : State) : StepOutcome :=
  .next <|
    if s.linkState ≠ .synchronizing then s.emit (.ack .noEffect)
    else failWith .cancelled (callSetLineState false (callSetBaudRate s.cfg.baudSteady (s.emit (.ack .ok))))

/-- `CANCEL_REQUEST` (R230). -/
def execCancelRequest (s : State) : StepOutcome :=
  .next <|
    if !s.pendingValid then s.emit (.ack .noEffect)
    else resolveWith (.err .cancelled) (s.emit (.ack .ok))

end Sys2Proof.Machine
end

