-- ==== Sys2Proof/Machine/Frames.lean ====
section
/-! DEFINITION. The frame rows: frames from the ECU are inbound blocks (R88, R215; log 18), frames to the ECU are the
requests the block writes (R95, R176, R210; log 17). -/

namespace Sys2Proof.Machine

/-- `FRAME`: an inbound block laid out as R80 says. -/
def execFrame (hdr : Header) (length sid : Byte) (payload : List Byte) (ck : Byte) (s : State) : StepOutcome :=
  .next (receive (hdr.format :: hdr.target :: hdr.source :: length :: sid :: (payload ++ [ck])) s)

/-- `SID_READ_DTCS`: the SD writes the read-DTCs request at the head of the queue (R210, R235). -/
def execSidReadDtcs (s : State) : StepOutcome :=
  .next (if s.dispatchEnabled && s.queue.head? = some (readDtcsRequest s.cfg) then dispatch s else s)

/-- `RSP_READ_DTCS`: a read-DTCs response arrives (R93, R216). -/
def execRspReadDtcs (hdr : Header) (payload : List Byte) (s : State) : StepOutcome :=
  .next (receive (buildFrame hdr 0x58#8 payload) s)

/-- `SID_TESTER_PRESENT`: the SD writes the testerPresent request at the head of the queue (R210, R211, R237). -/
def execSidTesterPresent (s : State) : StepOutcome :=
  .next (if s.dispatchEnabled && s.queue.head? = some (testerPresentRequest s.cfg) then dispatch s else s)

/-- `RSP_TESTER_PRESENT`: an answer to testerPresent arrives; nobody waits for it (R95, R345). -/
def execRspTesterPresent (hdr : Header) (payload : List Byte) (s : State) : StepOutcome :=
  .next (receive (buildFrame hdr 0x7E#8 payload) s)

/-- `SID_START_COMMUNICATION`: the ISM writes the StartCommunication frame that stands in `tx_frame` (R92, R176). -/
def execSidStartCommunication (s : State) : StepOutcome :=
  if s.ismWriteEnabled && s.txFrame.read 4 = s.cfg.sidStartComm then writeTx s else .next s

/-- `RSP_START_COMMUNICATION`: an answer to StartCommunication arrives; the block does not await it (R95, R176). -/
def execRspStartCommunication (hdr : Header) (payload : List Byte) (s : State) : StepOutcome :=
  .next (receive (buildFrame hdr 0xC1#8 payload) s)

/-- `NEGATIVE_RESPONSE`: bytes after the error code are ignored (R89, R217). -/
def execNegativeResponse (hdr : Header) (rs ec : Byte) (rest : List Byte) (s : State) : StepOutcome :=
  .next (receive (buildFrame hdr 0x7F#8 (rs :: ec :: rest)) s)

/-- `POSITIVE_RESPONSE`: a service response with this SID arrives (R88, R216). -/
def execPositiveResponse (hdr : Header) (sid : Byte) (payload : List Byte) (s : State) : StepOutcome :=
  .next (receive (buildFrame hdr sid payload) s)

end Sys2Proof.Machine
end

