-- ==== Sys2Proof/Machine/Handlers.lean ====
section
/-! DEFINITION. The event handlers and the two procedures (R155 to R162, R176, R159, R210, R215, R225, R227). A handler
whose guard does not hold changes nothing (R151; log 16). -/

namespace Sys2Proof.Machine

/-- R155: the next bit of the address character; the last is bit 9 (R25). -/
def nextAddressBit (s : State) : State :=
  let advanced := { s with bitIdx := s.bitIdx + 1#4 }
  let called := callSetLineState (levelLow s.cfg.nDataBits.toNat s.ecuAddr advanced.bitIdx.toNat) advanced
  if advanced.answer then { called with initTimer := s.cfg.tBit } else failWith .ioSetLineState called

/-- R156: the baud rate is switched after the stop bit. -/
def addressDone (s : State) : State :=
  if s.answer then
    { callSetBaudRate s.cfg.baudSteady s with ismState := .awaitingSync, initTimer := s.cfg.tSettle }
  else failWith .ioSetBaudRate (callSetBaudRate s.cfg.baudSteady s)

/-- R161: the line goes high. -/
def pulseLowDone (s : State) : State :=
  if s.answer then { callSetLineState false s with ismState := .pulseHigh, initTimer := s.cfg.tPulseHigh }
  else failWith .ioSetLineState (callSetLineState false s)

/-- R162: the baud rate is set and the StartCommunication frame built. -/
def pulseHighDone (s : State) : State :=
  if s.answer then
    loadStartComm (callSetBaudRate s.cfg.baudSteady s)
  else failWith .ioSetBaudRate (callSetBaudRate s.cfg.baudSteady s)

/-- `TICK_SENDING_ADDRESS_NEXT_BIT` (R155). -/
def execTickSendingAddressNextBit (s : State) : StepOutcome :=
  .next (if s.ismState = .sendingAddress ∧ s.bitIdx < 9#4 then tickInit nextAddressBit s else s)

/-- `TICK_SENDING_ADDRESS_DONE` (R155, R156). -/
def execTickSendingAddressDone (s : State) : StepOutcome :=
  .next (if s.ismState = .sendingAddress ∧ s.bitIdx = 9#4 then tickInit addressDone s else s)

/-- `TICK_AWAITING_SYNC` (R157). -/
def execTickAwaitingSync (s : State) : StepOutcome :=
  .next (if s.ismState = .awaitingSync then tickInit enterReady s else s)

/-- `TICK_PULSE_LOW` (R161). -/
def execTickPulseLow (s : State) : StepOutcome :=
  .next (if s.ismState = .pulseLow then tickInit pulseLowDone s else s)

/-- `TICK_PULSE_HIGH` (R162). -/
def execTickPulseHigh (s : State) : StepOutcome :=
  .next (if s.ismState = .pulseHigh then tickInit pulseHighDone s else s)

/-- `TAU_ISM_WRITE` (R176). -/
def execTauIsmWrite (s : State) : StepOutcome :=
  if s.ismWriteEnabled then writeTx s else .next s

/-- `FAIL(r)` (R159). -/
def execFail (reason : FailReason) (s : State) : StepOutcome :=
  .next (failWith reason s)

/-- `TAU_DISPATCH` (R210). -/
def execTauDispatch (s : State) : StepOutcome :=
  .next (if s.dispatchEnabled then dispatch s else s)

/-- `RX(block)` (R215). -/
def execRx (block : List Byte) (s : State) : StepOutcome :=
  .next (receive block s)

/-- `TICK_SD` (R225). -/
def execTickSd (s : State) : StepOutcome :=
  .next (tickDispatcher s)

/-- `RESOLVE(r)` (R227). -/
def execResolve (r : RequestResult) (s : State) : StepOutcome :=
  .next (resolveWith r s)

end Sys2Proof.Machine
end

