-- ==== Sys2Proof/Machine/Requests.lean ====
section
/-! DEFINITION. `SEND_SERVICE` and the five convenience commands, each an ordinary request (R106, R201, R235 to R239). -/

namespace Sys2Proof.Machine

/-- `SEND_SERVICE(serviceId, payload)` (R201). -/
def execSendService (sid : Byte) (payload : List Byte) (s : State) : StepOutcome :=
  .next (acceptRequest sid payload s)

/-- `READ_DTCS` = `SEND_SERVICE(0x18, [])`; 0x18 is `SID_READ_DTC` (R235; log 2). -/
def execReadDtcs (s : State) : StepOutcome :=
  .next (acceptRequest s.cfg.sidReadDtc [] s)

/-- `CLEAR_DTCS` = `SEND_SERVICE(CFG.SID_CLEAR_DTC, CFG.MEM_REQ_PAYLOAD.clear())` (R236). -/
def execClearDtcs (s : State) : StepOutcome :=
  .next (acceptRequest s.cfg.sidClearDtc s.cfg.memReqPayload.clear s)

/-- `TESTER_PRESENT` = `SEND_SERVICE(0x3E, [])`; 0x3E is `SID_TESTER_PRESENT` (R237; log 2). -/
def execTesterPresent (s : State) : StepOutcome :=
  .next (acceptRequest s.cfg.sidTesterPresent [] s)

/-- `READ_MEMORY(address, size)` = `SEND_SERVICE(CFG.SID_READ_MEM, CFG.MEM_REQ_PAYLOAD.read(address, size))` (R238). -/
def execReadMemory (address size : List Byte) (s : State) : StepOutcome :=
  .next (acceptBuilt s.cfg.sidReadMem (s.cfg.memReqPayload.read address size) s)

/-- `WRITE_MEMORY(address, data)` = `SEND_SERVICE(CFG.SID_WRITE_MEM, CFG.MEM_REQ_PAYLOAD.write(address, data))`
(R239). -/
def execWriteMemory (address data : List Byte) (s : State) : StepOutcome :=
  .next (acceptBuilt s.cfg.sidWriteMem (s.cfg.memReqPayload.write address data) s)

end Sys2Proof.Machine
end

