-- ==== Sys2Proof/Machine/TransportCalls.lean ====
section
/-! DEFINITION. The Transport's capabilities as operations (R310 to R316). -/

namespace Sys2Proof.Machine

/-- `T.isOpen` (R311). -/
def execTIsOpen (s : State) : StepOutcome := .next (callIsOpen s)

/-- `T.setBaudRate(bps)` (R312). -/
def execTSetBaudRate (bps : Rate) (s : State) : StepOutcome := .next (callSetBaudRate bps s)

/-- `T.setLineState(low)` (R313). -/
def execTSetLineState (low : Bool) (s : State) : StepOutcome := .next (callSetLineState low s)

/-- `T.write(bytes)` (R314). -/
def execTWrite (bytes : List Byte) (s : State) : StepOutcome := .next (callWrite bytes s)

/-- `T.subscribeRead`: its callback delivers a block, which becomes an `Rx` event (R315; log 12). -/
def execTSubscribeRead (block : List Byte) (s : State) : StepOutcome := .next (deliver block s)

/-- `T.close` (R316; log 12). -/
def execTClose (s : State) : StepOutcome := .next (callClose s)

end Sys2Proof.Machine
end

