-- ==== Sys2Proof/Machine/Units.lean ====
section
/-! DEFINITION. The pure functions exposed as combinational units (R101): they write no register of the block and make
no Transport call; the model shows their value in `unitOut` (log 19). -/

namespace Sys2Proof.Machine

/-- `CHECKSUM(b)` (R120). -/
def execChecksum (b : List Byte) (s : State) : StepOutcome :=
  .next (showUnit (.checksum (checksumOf b)) s)

/-- `ENCODE(target, source, serviceId, payload)` (R121). -/
def execEncode (target source sid : Byte) (payload : List Byte) (s : State) : StepOutcome :=
  .next (showUnit (.encoded (encodeFrame s.cfg target source sid payload)) s)

/-- `DECODE(b)` (R122). -/
def execDecode (b : List Byte) (s : State) : StepOutcome :=
  .next (showUnit (.decoded (decodeFrame s.cfg.negRespSid b)) s)

/-- `DTC_DECODE(response)`; only the payload is read (R260). -/
def execDtcDecode (payload : List Byte) (s : State) : StepOutcome :=
  .next (showUnit (.dtcs (dtcDecodeOf payload)) s)

/-- `DTC_CODE(h, l)` (R261). -/
def execDtcCode (h l : Byte) (s : State) : StepOutcome :=
  .next (showUnit (.code (dtcCodeOf h l)) s)

end Sys2Proof.Machine
end

