-- ==== Sys2Proof/Machine/Dispatch.lean ====
section
/-! DEFINITION. One arm per instruction, each one call of its meaning. -/

namespace Sys2Proof.Machine

def exec (i : Instr) (s : State) : Host.Outcome State Fault Refusal :=
  match i with
  -- commands (R100)
  | .startInit5Baud a => Sys2Proof.Machine.execStartInit5Baud a s
  | .startInitFast a => Sys2Proof.Machine.execStartInitFast a s
  | .cancelInit => Sys2Proof.Machine.execCancelInit s
  | .cancelRequest => Sys2Proof.Machine.execCancelRequest s
  | .sendService sid payload => Sys2Proof.Machine.execSendService sid payload s
  | .readDtcs => Sys2Proof.Machine.execReadDtcs s
  | .clearDtcs => Sys2Proof.Machine.execClearDtcs s
  | .testerPresent => Sys2Proof.Machine.execTesterPresent s
  | .readMemory address size => Sys2Proof.Machine.execReadMemory address size s
  | .writeMemory address data => Sys2Proof.Machine.execWriteMemory address data s
  -- pure functions (R101)
  | .checksum b => Sys2Proof.Machine.execChecksum b s
  | .encode target source sid payload => Sys2Proof.Machine.execEncode target source sid payload s
  | .decode b => Sys2Proof.Machine.execDecode b s
  | .dtcDecode payload => Sys2Proof.Machine.execDtcDecode payload s
  | .dtcCode h l => Sys2Proof.Machine.execDtcCode h l s
  -- frames (R80, R88, R95)
  | .frame hdr length sid payload ck => Sys2Proof.Machine.execFrame hdr length sid payload ck s
  | .sidReadDtcs => Sys2Proof.Machine.execSidReadDtcs s
  | .rspReadDtcs hdr payload => Sys2Proof.Machine.execRspReadDtcs hdr payload s
  | .sidTesterPresent => Sys2Proof.Machine.execSidTesterPresent s
  | .rspTesterPresent hdr payload => Sys2Proof.Machine.execRspTesterPresent hdr payload s
  | .sidStartCommunication => Sys2Proof.Machine.execSidStartCommunication s
  | .rspStartCommunication hdr payload => Sys2Proof.Machine.execRspStartCommunication hdr payload s
  | .negativeResponse hdr rs ec rest => Sys2Proof.Machine.execNegativeResponse hdr rs ec rest s
  | .positiveResponse hdr sid payload => Sys2Proof.Machine.execPositiveResponse hdr sid payload s
  -- event handlers and procedures
  | .tickSendingAddressNextBit => Sys2Proof.Machine.execTickSendingAddressNextBit s
  | .tickSendingAddressDone => Sys2Proof.Machine.execTickSendingAddressDone s
  | .tickAwaitingSync => Sys2Proof.Machine.execTickAwaitingSync s
  | .tickPulseLow => Sys2Proof.Machine.execTickPulseLow s
  | .tickPulseHigh => Sys2Proof.Machine.execTickPulseHigh s
  | .tauIsmWrite => Sys2Proof.Machine.execTauIsmWrite s
  | .fail reason => Sys2Proof.Machine.execFail reason s
  | .tauDispatch => Sys2Proof.Machine.execTauDispatch s
  | .rx block => Sys2Proof.Machine.execRx block s
  | .tickSd => Sys2Proof.Machine.execTickSd s
  | .resolve r => Sys2Proof.Machine.execResolve r s
  -- Transport calls (R311 to R316)
  | .tIsOpen => Sys2Proof.Machine.execTIsOpen s
  | .tSetBaudRate bps => Sys2Proof.Machine.execTSetBaudRate bps s
  | .tSetLineState low => Sys2Proof.Machine.execTSetLineState low s
  | .tWrite bytes => Sys2Proof.Machine.execTWrite bytes s
  | .tSubscribeRead block => Sys2Proof.Machine.execTSubscribeRead block s
  | .tClose => Sys2Proof.Machine.execTClose s

end Sys2Proof.Machine
end

