-- ==== Sys2Proof/WellFormed.lean ====
section
/-! DEFINITION. Which terms of `Instr` are instructions of the block: the bounds the spec puts on operands. -/

namespace Sys2Proof

/-- A SID that a row of the table names for inbound frames: the generic rows `FRAME` and `POSITIVE_RESPONSE`
leave these frames to their own rows (R88, R95). -/
def namedResponseSid (sid : Byte) : Bool :=
  sid = 0x58#8 || sid = 0x7E#8 || sid = 0xC1#8 || sid = 0x7F#8

/-- The outcomes of R242: a request ends with an error only by timeout, write failure or cancellation. -/
def RequestResult.wf : RequestResult → Bool
  | .response _ payload _ => payload.length ≤ Config.maxPayload
  | .negative _ _ => true
  | .sent => true
  | .err e => e = .responseTimeout || e = .transportIoFailure || e = .cancelled

/-- Well-formed instructions: operand lengths as R85, R89, R100 give them and, for the memory commands, as
`CFG.MEM_REQ_PAYLOAD` fixes them (R8, R52, D28); the fields of a `FRAME` consistent
(R83, R86), a reason of R293 for `FAIL`, an outcome of R242 for `RESOLVE`, and for `RX` a block that is no
frame by the table's codes. -/
def Instr.wf (c : Cfg) : Instr → Bool
  | .startInit5Baud _ => true
  | .startInitFast _ => true
  | .cancelInit => true
  | .cancelRequest => true
  | .sendService _ payload => payload.length ≤ 65535
  | .readDtcs => true
  | .clearDtcs => true
  | .testerPresent => true
  | .readMemory address size =>
      address.length = c.memReqPayload.addressBytes && size.length = c.memReqPayload.sizeBytes
  | .writeMemory address _ => address.length = c.memReqPayload.addressBytes
  | .checksum _ => true
  | .encode _ _ _ _ => true
  | .decode _ => true
  | .dtcDecode _ => true
  | .dtcCode _ _ => true
  | .frame hdr length sid payload ck =>
      payload.length ≤ Config.maxPayload && length.toNat = 1 + payload.length && !namedResponseSid sid
        && ck = Machine.checksumOf (Machine.frameBody hdr sid payload)
  | .sidReadDtcs => true
  | .rspReadDtcs _ payload => payload.length ≤ Config.maxPayload
  | .sidTesterPresent => true
  | .rspTesterPresent _ payload => payload.length ≤ Config.maxPayload
  | .sidStartCommunication => true
  | .rspStartCommunication _ payload => payload.length ≤ Config.maxPayload
  | .negativeResponse _ _ _ rest => rest.length + 2 ≤ Config.maxPayload
  | .positiveResponse _ sid payload => payload.length ≤ Config.maxPayload && !namedResponseSid sid
  | .tickSendingAddressNextBit => true
  | .tickSendingAddressDone => true
  | .tickAwaitingSync => true
  | .tickPulseLow => true
  | .tickPulseHigh => true
  | .tauIsmWrite => true
  | .fail reason => reason ≠ .none
  | .tauDispatch => true
  | .rx block =>
      match Machine.decodeFrame 0x7F#8 block with
      | .error _ => true
      | _ => false
  | .tickSd => true
  | .resolve r => r.wf
  | .tIsOpen => true
  | .tSetBaudRate _ => true
  | .tSetLineState _ => true
  | .tWrite _ => true
  | .tSubscribeRead _ => true
  | .tClose => true

end Sys2Proof
end

