-- ==== Sys2Proof/Decode.lean ====
section
/-! DEFINITION. The decoder, total on any bytes and rejecting by name, and after it the encoder, both from the
tables of R80 and R100. -/

namespace Sys2Proof

/-- Where a word is read: the command port (R100), the Transport's read channel (R315), or the `serviceId` byte of
the request frame the block is about to write (R84, R95). -/
inductive Channel where
  | commandPort
  | inbound
  | requestSid
  deriving DecidableEq, Repr

/-- Why bytes are no instruction. -/
inductive DecodeError where
  /-- no byte at all -/
  | empty
  /-- the code is in no row of the channel's table (R96(g)) -/
  | unknownCode (code : Byte)
  /-- operand bytes are missing (log 15) -/
  | truncated
  /-- bytes follow the last operand (log 15) -/
  | trailing
  deriving DecidableEq, Repr

/-- One operand byte. -/
def takeByte (mk : Byte → Instr) : List Byte → Except DecodeError (Instr × List Byte)
  | a :: rest => .ok (mk a, rest)
  | [] => .error .truncated

/-- The operands of `SEND_SERVICE`: serviceId, payloadLen high byte first, payloadLen bytes (R100). -/
def takeSendService : List Byte → Except DecodeError (Instr × List Byte)
  | sid :: hi :: lo :: rest =>
      if rest.length < hi.toNat * 256 + lo.toNat then .error .truncated
      else .ok (.sendService sid (rest.take (hi.toNat * 256 + lo.toNat)), rest.drop (hi.toNat * 256 + lo.toNat))
  | _ => .error .truncated

/-- The command at the front of a byte sequence and the bytes after it (R100). For the memory commands the address takes
the bytes of its width in `CFG.MEM_REQ_PAYLOAD` and the second operand the rest (R8, D28; log 4). -/
def decodeCommandPrefix (c : Cfg) : List Byte → Except DecodeError (Instr × List Byte)
  | [] => .error .empty
  | code :: ops =>
      if code = 0x01#8 then takeByte .startInit5Baud ops
      else if code = 0x02#8 then takeByte .startInitFast ops
      else if code = 0x03#8 then .ok (.cancelInit, ops)
      else if code = 0x04#8 then .ok (.cancelRequest, ops)
      else if code = 0x10#8 then takeSendService ops
      else if code = 0x11#8 then .ok (.readDtcs, ops)
      else if code = 0x12#8 then .ok (.clearDtcs, ops)
      else if code = 0x13#8 then .ok (.testerPresent, ops)
      else if code = 0x14#8 then
        .ok (.readMemory (ops.take c.memReqPayload.addressBytes) (ops.drop c.memReqPayload.addressBytes), [])
      else if code = 0x15#8 then
        .ok (.writeMemory (ops.take c.memReqPayload.addressBytes) (ops.drop c.memReqPayload.addressBytes), [])
      else .error (.unknownCode code)

/-- One presentation at the command port: exactly one command (R100). -/
def decodeCommand (c : Cfg) (bytes : List Byte) : Except DecodeError Instr :=
  match decodeCommandPrefix c bytes with
  | .ok (i, []) => .ok i
  | .ok (_, _ :: _) => .error .trailing
  | .error e => .error e

/-- The header bytes of a block (R80). -/
def headerOf (b : List Byte) : Header :=
  ⟨b.getD 0 0#8, b.getD 1 0#8, b.getD 2 0#8⟩

/-- The row a block that decodes to a `ServiceResponse` belongs to; `expected` is the identifier of the positive
response awaited, if any (R88, R95, R216). -/
def serviceRow (expected : Option Byte) (b : List Byte) (sid : Byte) (payload : List Byte) : Instr :=
  if sid = 0x58#8 then .rspReadDtcs (headerOf b) payload
  else if sid = 0x7E#8 then .rspTesterPresent (headerOf b) payload
  else if sid = 0xC1#8 then .rspStartCommunication (headerOf b) payload
  else if expected = some sid then .positiveResponse (headerOf b) sid payload
  else .frame (headerOf b) (b.getD 3 0#8) sid payload (b.getLastD 0#8)

/-- The row of an inbound block, by the codes of the table (R95): a frame row when `DECODE` succeeds, else `RX` (R56,
R88, R122; log 18). -/
def decodeBlock (expected : Option Byte) (b : List Byte) : Instr :=
  match Machine.decodeFrame 0x7F#8 b with
  | .service sid payload => serviceRow expected b sid payload
  | .negative rs ec => .negativeResponse (headerOf b) rs ec ((Machine.payloadOf b).drop 2)
  | .error _ => .rx b

/-- The row of a request frame the block writes, by its `serviceId` byte (R95). -/
def decodeRequestSid : List Byte → Except DecodeError Instr
  | [] => .error .empty
  | [sid] =>
      if sid = 0x18#8 then .ok .sidReadDtcs
      else if sid = 0x3E#8 then .ok .sidTesterPresent
      else if sid = 0x81#8 then .ok .sidStartCommunication
      else .error (.unknownCode sid)
  | _ :: _ :: _ => .error .trailing

/-- The decoder of all channels. -/
def decode (c : Cfg) (ch : Channel) (expected : Option Byte) (bytes : List Byte) : Except DecodeError Instr :=
  match ch with
  | .commandPort => decodeCommand c bytes
  | .inbound => .ok (decodeBlock expected bytes)
  | .requestSid => decodeRequestSid bytes

/-- The low `n` bytes of a number, least significant first: the table's numbering of a row's bits. -/
def wordBytes : Nat → Nat → List Byte
  | 0, _ => []
  | n + 1, w => byte w :: wordBytes n (w / 256)

/-- The inbound frame of a response row with every operand bit 0: header bytes 0, no payload, but the two bytes a
negative response must have (R89). -/
def zeroFrame (sid : Byte) : List Byte :=
  Machine.buildFrame ⟨0#8, 0#8, 0#8⟩ sid (if sid = 0x7F#8 then [0#8, 0#8] else [])

/-- The row of a `serviceId` byte of the table: a request row, or a response row as an inbound frame. -/
def decodeServiceIdByte (sid : Byte) : Option Instr :=
  match decodeRequestSid [sid] with
  | .ok i => some i
  | .error _ => if namedResponseSid sid then some (decodeBlock none (zeroFrame sid)) else none

/-- The bytes of zeros that follow a row's word at the command port: for a memory command as many as its operands have
(log 25), else as many as any command needs. -/
def operandZeros (c : Cfg) (code : Byte) (given : Nat) : List Byte :=
  if code = 0x14#8 then
    List.replicate (c.memReqPayload.addressBytes + c.memReqPayload.sizeBytes - given) 0#8
  else if code = 0x15#8 then List.replicate (c.memReqPayload.addressBytes - given) 0#8
  else [0#8, 0#8, 0#8]

/-- The instruction read from a row's word under a configuration; the word is numbered as the table numbers it, and
operand bytes it does not give are 0. -/
def decodeTableWordFor (c : Cfg) (nbits w : Nat) : Option Instr :=
  match wordBytes (nbits / 8) w with
  | [] => none
  | code :: ops =>
      match decodeCommandPrefix c (code :: ops ++ operandZeros c code ops.length) with
      | .ok (i, rest) => if rest.all (· = 0#8) then some i else none
      | .error _ => if ops = [] then decodeServiceIdByte code else none

/-- The instruction read from a row's word under the configuration of `State.reset`. -/
def decodeTableWord (nbits w : Nat) : Option Instr := decodeTableWordFor Cfg.standard nbits w

/-! ### The encoder -/

/-- The words of an instruction and the channel they are read on (R80, R89, R95, R100); `none` for the rows the table
gives no code: pure functions, event handlers other than `RX`, Transport calls. -/
def encode : Instr → Option (Channel × List Byte)
  | .startInit5Baud a => some (.commandPort, [0x01#8, a])
  | .startInitFast a => some (.commandPort, [0x02#8, a])
  | .cancelInit => some (.commandPort, [0x03#8])
  | .cancelRequest => some (.commandPort, [0x04#8])
  | .sendService sid payload =>
      some (.commandPort, 0x10#8 :: sid :: byte (payload.length / 256) :: byte payload.length :: payload)
  | .readDtcs => some (.commandPort, [0x11#8])
  | .clearDtcs => some (.commandPort, [0x12#8])
  | .testerPresent => some (.commandPort, [0x13#8])
  | .readMemory address size => some (.commandPort, 0x14#8 :: (address ++ size))
  | .writeMemory address data => some (.commandPort, 0x15#8 :: (address ++ data))
  | .frame hdr length sid payload ck =>
      some (.inbound, hdr.format :: hdr.target :: hdr.source :: length :: sid :: (payload ++ [ck]))
  | .sidReadDtcs => some (.requestSid, [0x18#8])
  | .rspReadDtcs hdr payload => some (.inbound, Machine.buildFrame hdr 0x58#8 payload)
  | .sidTesterPresent => some (.requestSid, [0x3E#8])
  | .rspTesterPresent hdr payload => some (.inbound, Machine.buildFrame hdr 0x7E#8 payload)
  | .sidStartCommunication => some (.requestSid, [0x81#8])
  | .rspStartCommunication hdr payload => some (.inbound, Machine.buildFrame hdr 0xC1#8 payload)
  | .negativeResponse hdr rs ec rest => some (.inbound, Machine.buildFrame hdr 0x7F#8 (rs :: ec :: rest))
  | .positiveResponse hdr sid payload => some (.inbound, Machine.buildFrame hdr sid payload)
  | .rx block => some (.inbound, block)
  | .checksum _ => none
  | .encode _ _ _ _ => none
  | .decode _ => none
  | .dtcDecode _ => none
  | .dtcCode _ _ => none
  | .tickSendingAddressNextBit => none
  | .tickSendingAddressDone => none
  | .tickAwaitingSync => none
  | .tickPulseLow => none
  | .tickPulseHigh => none
  | .tauIsmWrite => none
  | .fail _ => none
  | .tauDispatch => none
  | .tickSd => none
  | .resolve _ => none
  | .tIsOpen => none
  | .tSetBaudRate _ => none
  | .tSetLineState _ => none
  | .tWrite _ => none
  | .tSubscribeRead _ => none
  | .tClose => none

/-- An instruction read at the command port (R100). -/
def isCommand (i : Instr) : Bool :=
  match encode i with
  | some (.commandPort, _) => true
  | _ => false

end Sys2Proof
end

