-- ==== Sys2Proof/Machine/Fetch.lean ====
section
/-! DEFINITION. Which event a step processes (R10, R11, R297), which instruction a Tick or Tau runs (R151, R210), and
how one operation is made the next event (log 13, 25). -/

namespace Sys2Proof.Machine

/-- A presentation at the command port that is `CANCEL_INIT` or `CANCEL_REQUEST` (R297). -/
def isCancel (c : Cfg) (bytes : List Byte) : Bool :=
  match decodeCommand c bytes with
  | .ok .cancelInit => true
  | .ok .cancelRequest => true
  | _ => false

/-- The event taken from the events ready in the present instant `now`, in R297's order: cancels, Rx, an enabled Tau,
Tick, other commands; and the state without it. What the platform does comes first (log 13). With nothing ready the
instant is over. -/
def arbitrate (now : Instant) (later : List Instant) (s : State) : Option Event × State :=
  if now.reset then (some .reset, { s with inputs := { now with reset := false } :: later })
  else match now.transportOpen with
  | some b => (some (.transportOpen b), { s with inputs := { now with transportOpen := none } :: later })
  | none =>
    match now.cmds.find? (isCancel s.cfg) with
    | some c => (some (.cmd c), { s with inputs := { now with cmds := now.cmds.erase c } :: later })
    | none =>
      match now.rx with
      | b :: rest => (some (.rx b), { s with inputs := { now with rx := rest } :: later })
      | [] =>
        if s.tauEnabled then (some .tau, s)
        else if now.tick then (some .tick, { s with inputs := { now with tick := false } :: later })
        else match now.cmds with
        | c :: rest => (some (.cmd c), { s with inputs := { now with cmds := rest } :: later })
        | [] => (none, { s with inputs := later })

/-- The next event: the one presented, but no Tick while an internal action is enabled (R11); with none presented, the
arbitration of R297; with nothing ready, an enabled internal action, else none. -/
def fetch (s : State) : Option Event × State :=
  match s.presented with
  | some .tick => if s.tauEnabled then (some .tau, s) else (some .tick, { s with presented := none })
  | some e => (some e, { s with presented := none })
  | none =>
    match s.inputs with
    | now :: later => arbitrate now later s
    | [] => if s.tauEnabled then (some .tau, s) else (none, s)

/-- The ISM handler a Tick runs, if any (R151, R155). -/
def tickHandler (s : State) : Option Instr :=
  match s.ismState with
  | .sendingAddress => if s.bitIdx < 9#4 then some .tickSendingAddressNextBit else some .tickSendingAddressDone
  | .awaitingSync => some .tickAwaitingSync
  | .pulseLow => some .tickPulseLow
  | .pulseHigh => some .tickPulseHigh
  | .idle => none
  | .sendingStartComm => none
  | .ready => none
  | .failed => none

/-- The internal action that is enabled, if any (R176, R210). -/
def tauAction (s : State) : Option Instr :=
  if s.ismWriteEnabled then some .tauIsmWrite
  else if s.dispatchEnabled then some .tauDispatch
  else none

/-- Run one meaning after another in the same step. -/
def andThen (first : StepOutcome) (second : State → StepOutcome) : StepOutcome :=
  match first with
  | .next s => second s
  | .fault r => .fault r
  | .refused r => .refused r

/-- Present one event to the block. -/
def State.present (e : Event) (s : State) : State := { s with presented := some e }

/-- The state in which `Tau(Dispatch)` is enabled with this request at the head of the queue (R210). -/
def withRequestAtHead (req : ServiceRequest) (s : State) : State :=
  { s with ismState := .ready, pendingValid := false, guardTimer := 0#16, queue := req :: s.queue }

/-- Make an instruction the next one a step runs: its word where that word is read (log 25). -/
def place (i : Instr) (s : State) : State :=
  match i with
  | .sidReadDtcs => (withRequestAtHead (readDtcsRequest s.cfg) s).present .tau
  | .sidTesterPresent => (withRequestAtHead (testerPresentRequest s.cfg) s).present .tau
  | .sidStartCommunication => (loadStartComm s).present .tau
  | i =>
    match encode i with
    | some (.commandPort, bytes) => s.present (.cmd bytes)
    | some (.inbound, block) => s.present (.rx block)
    | _ => s

end Sys2Proof.Machine
end

