-- ==== Sys2Proof/Machine/Step.lean ====
section
/-! DEFINITION. One step: one event, processed to completion (R10). -/

namespace Sys2Proof.Machine

/-- A presentation at the command port: a command runs; a code outside the table is ignored (R96(g)), and so are bytes
that are no command for another reason, no byte at all or operand bytes missing or too many (R319; log 15). -/
def acceptCommand (bytes : List Byte) (s : State) : StepOutcome :=
  match decodeCommand s.cfg bytes with
  | .ok i => exec i s
  | .error _ => .next s

/-- A Tick: the ISM's handler, then the SD's, in the same step (R225; log 27). -/
def acceptTick (s : State) : StepOutcome :=
  match tickHandler s with
  | some i => andThen (exec i s) (exec .tickSd)
  | none => exec .tickSd s

/-- An internal action; none when none is enabled. -/
def acceptTau (s : State) : StepOutcome :=
  match tauAction s with
  | some i => exec i s
  | none => .next s

/-- Process one event (R10). -/
def accept (e : Event) (s : State) : StepOutcome :=
  match e with
  | .cmd bytes => acceptCommand bytes s
  | .rx block => exec (decodeBlock s.expectedSid block) s
  | .tick => acceptTick s
  | .tau => acceptTau s
  | .transportOpen b => .next { s with tOpen := b }
  | .reset => .next (resetBlock s)

/-- One step: the next event is processed; with none the block is idle (R296). -/
def step (s : State) : Host.Outcome State Fault Refusal :=
  match fetch s with
  | (some e, t) => accept e t
  | (none, t) => .next t

/-- The state whose next step runs the instruction of a row's word (log 25); a word the decoder refuses is presented
at the command port as it stands. -/
def State.withFetchWord (s : State) (nbits w : Nat) : State :=
  match decodeTableWordFor s.cfg nbits w with
  | some i => place i s
  | none => s.present (.cmd (wordBytes (nbits / 8) w))

end Sys2Proof.Machine
end

