-- ==== Sys2Proof/Safety.lean ====
section
/-! DEFINITION. What the claims speak of: the invariants of R38, reachable states, and runs of ticks. -/

namespace Sys2Proof.Machine

/-- The invariants I1 to I10 of R38. -/
structure SpecInv (s : State) : Prop where
  /-- I1 -/
  pendingReady : s.pendingValid = true → s.ismState = .ready
  /-- I2 -/
  queueReady : s.queue ≠ [] → s.ismState = .ready
  /-- I3 -/
  respTimer : s.respTimer ≠ 0#16 ↔ s.pendingValid = true
  /-- I4 -/
  initTimer : s.initTimer ≠ 0#16 ↔ timedState s.ismState = true
  /-- I5 -/
  ecuAddr : s.ismState ≠ .idle →
    s.ecuAddrWritten = true ∨ (s.ismState = .failed ∧ s.failReason = .transportNotOpen)
  /-- I6 -/
  bitIdx : s.bitIdx ≤ 9#4
  /-- I7 -/
  queueBound : s.queue.length ≤ s.cfg.queueDepth ∧ (s.cfg.queueMode = .reject → s.queue.length ≤ 1)
  /-- I8 -/
  failReason : s.failReason ≠ .none ↔ s.ismState = .failed
  /-- I9: the SD's one Transport call is that of `Dispatch` -/
  sdSilent : s.linkState = .synchronizing → s.dispatchEnabled = false
  /-- I10 -/
  guardOpen : s.pendingValid = true → s.guardTimer = 0#16

/-- What the rules say of the buffers: `tx_frame` is canonical and within its size, it holds a frame only from its
building to its writing, and that frame is the StartCommunication request (R28, R50, R162); every queued request is one
that `SEND_SERVICE` makes and fits a frame (R32, R201); testerPresent never becomes pending (R201, R210, R345). -/
structure BufferInv (s : State) : Prop where
  txFrame : s.txFrame.wf = true ∧ s.txFrame.inTxFrame = true
  txLen : s.ismState ≠ .sendingStartComm → s.txLen = 0#9
  startComm : s.ismState = .sendingStartComm →
    s.txLen = 7#9 ∧
    s.txBytes = buildFrame ⟨s.cfg.formatByte, s.ecuAddr, s.cfg.testerAddr⟩ s.cfg.sidStartComm [s.cfg.sessionType]
  requests : ∀ r ∈ s.queue, r = requestOf s.cfg r.serviceId r.payload ∧ r.payload.length ≤ s.cfg.maxPayload.toNat
  awaited : s.pendingValid = true → s.pendingSid ≠ s.cfg.sidTesterPresent

/-- The invariant of the machine. -/
structure Inv (s : State) : Prop where
  cfg : s.cfg.wf
  spec : SpecInv s
  buffers : BufferInv s

/-- The states a run can be in: it starts at reset with some configuration and the Transport in any state (R8, R332);
the block steps; between steps the environment may change what is its own (R10, R14). -/
inductive Reachable : State → Prop where
  | start (c : Cfg) (hc : c.wf) (isOpen : Bool) (baud : Rate) (low : Bool) :
      Reachable { State.reset with cfg := c, tOpen := isOpen, tBaud := baud, tLineLow := low }
  | step {s t : State} (hs : Reachable s) (h : step s = .next t) : Reachable t
  | environment {s : State} (hs : Reachable s) (e : Option Event) (i : List Instant) (a : List Bool) (isOpen : Bool) :
      Reachable { s with presented := e, inputs := i, answers := a, tOpen := isOpen }

/-- `n` steps, each with a `Tick` presented (R11). -/
def ticks : Nat → State → StepOutcome
  | 0, s => .next s
  | n + 1, s => andThen (step (s.present .tick)) (ticks n)

/-- The outputs added between two states, when the history only grew. -/
def newOutputs (s t : State) : List Output := t.outputs.drop s.outputs.length

/-- The ASCII characters `0` to `9`, `A` to `F` (R94). -/
def upperHexDigits : List Byte :=
  [0x30#8, 0x31#8, 0x32#8, 0x33#8, 0x34#8, 0x35#8, 0x36#8, 0x37#8,
    0x38#8, 0x39#8, 0x41#8, 0x42#8, 0x43#8, 0x44#8, 0x45#8, 0x46#8]

/-- An operation of the ISM: a command of R152 and R180, a handler of R155 to R162, the write of R176 and its row, or
the failure entry. -/
def isIsmOperation : Instr → Bool
  | .startInit5Baud _ | .startInitFast _ | .cancelInit | .tickSendingAddressNextBit | .tickSendingAddressDone
  | .tickAwaitingSync | .tickPulseLow | .tickPulseHigh | .tauIsmWrite | .sidStartCommunication | .fail _ => true
  | .cancelRequest | .sendService _ _ | .readDtcs | .clearDtcs | .testerPresent | .readMemory _ _
  | .writeMemory _ _ | .checksum _ | .encode _ _ _ _ | .decode _ | .dtcDecode _ | .dtcCode _ _
  | .frame _ _ _ _ _ | .sidReadDtcs | .rspReadDtcs _ _ | .sidTesterPresent | .rspTesterPresent _ _
  | .rspStartCommunication _ _ | .negativeResponse _ _ _ _ | .positiveResponse _ _ _ | .tauDispatch | .rx _
  | .tickSd | .resolve _ | .tIsOpen | .tSetBaudRate _ | .tSetLineState _ | .tWrite _ | .tSubscribeRead _
  | .tClose => false

/-- A call that sets the Transport's rate or level (R312, R313). -/
def isSettingCall (i : Instr) : Prop :=
  (∃ bps, i = .tSetBaudRate bps) ∨ ∃ low, i = .tSetLineState low

/-- An output is the `Ack` of a command. -/
def isAck : Output → Bool
  | .ack _ => true
  | _ => false

/-- An output is a `T.write`. -/
def isWrite : Output → Bool
  | .call (.write _ _) => true
  | _ => false

end Sys2Proof.Machine
end

