-- ==== Sys2Proof/Certificates/Slice0/Obligations.lean ====
section
/-! DEFINITION. The statements for the provers. Results are written as whole next states (`{ s with … }`), so each one
also states its frame: every field it does not name, `tx_frame`, `cfg` and the Transport's state among them, is
unchanged. `s.answer` is the bit the environment gives to the next Transport call (any bit). Where a rule writes a number
that R8 gives a field of CFG, the statement reads the field and holds for every value of it; R8's values are N_DATA_BITS 8,
POS_RESP_OFFSET 0x40, NEG_RESP_SID 0x7F, SID_READ_DTC 0x18, SID_TESTER_PRESENT 0x3E, SID_START_COMM 0x81, MAX_PAYLOAD 254
(log 2). -/

open Sys2Proof Sys2Proof.Machine

/-! ### Encoding -/

/-- R100, R101, R80: words written out from the spec's tables and examples decode to what they stand for. -/
def Obligations.KnownWordsDecode : Prop :=
  (∀ c : Cfg,
    decodeCommand c [0x02#8, 0x12#8] = .ok (.startInitFast 0x12#8) ∧
    decodeCommand c [0x11#8] = .ok .readDtcs ∧
    decodeCommand c [0x10#8, 0x21#8, 0x00#8, 0x01#8, 0x01#8] = .ok (.sendService 0x21#8 [0x01#8])) ∧
  decodeBlock none [0x80#8, 0xF1#8, 0x12#8, 0x03#8, 0x7F#8, 0x18#8, 0x11#8, 0x2E#8] =
    .negativeResponse ⟨0x80#8, 0xF1#8, 0x12#8⟩ 0x18#8 0x11#8 [] ∧
  decodeBlock none [0x80#8, 0xF1#8, 0x12#8, 0x02#8, 0x58#8, 0x00#8, 0xDD#8] =
    .rspReadDtcs ⟨0x80#8, 0xF1#8, 0x12#8⟩ [0x00#8] ∧
  decodeRequestSid [0x3E#8] = .ok .sidTesterPresent

/-- R100, R95: decoding the bytes of a well-formed command gives it back, the operands of the memory commands being byte
strings of the widths that `CFG.MEM_REQ_PAYLOAD` fixes (R8; log 4); and decoding the SID byte of each of the three request rows gives that row back. -/
def Obligations.CommandDecodesFromItsBytes : Prop :=
  (∀ (c : Cfg) (i : Instr) (bytes : List Byte), i.wf c = true → encode i = some (.commandPort, bytes) →
    decodeCommand c bytes = .ok i) ∧
  (∀ (i : Instr) (bytes : List Byte), encode i = some (.requestSid, bytes) → decodeRequestSid bytes = .ok i)

/-- R100, R95: bytes that decode to a command, or to a request row, are exactly its bytes, so no two byte strings mean
one command and no bit is dropped. -/
def Obligations.CommandBytesAreUnique : Prop :=
  (∀ (c : Cfg) (i : Instr) (bytes : List Byte), decodeCommand c bytes = .ok i →
    encode i = some (.commandPort, bytes)) ∧
  (∀ (i : Instr) (bytes : List Byte), decodeRequestSid bytes = .ok i → encode i = some (.requestSid, bytes))

/-- R80, R89, R95: decoding the bytes of a well-formed inbound row gives it back; `POSITIVE_RESPONSE` is the row of
the SID that is awaited, `FRAME` that of a SID that is not (log 18). -/
def Obligations.InboundRowDecodesFromItsBytes : Prop :=
  ∀ (c : Cfg) (i : Instr) (block : List Byte) (expected : Option Byte),
    i.wf c = true → encode i = some (.inbound, block) →
    (∀ hdr sid p, i = .positiveResponse hdr sid p → expected = some sid) →
    (∀ hdr l sid p ck, i = .frame hdr l sid p ck → expected ≠ some sid) →
    decodeBlock expected block = i

/-! ### The step -/

/-- R10: a step on a presented event runs the instruction its bytes decode to: a command, an inbound block, the
enabled internal action, and on a Tick the ISM's handler and then the SD's (log 27). -/
def Obligations.StepRunsTheDecodedInstruction : Prop :=
  ∀ s : State,
    (∀ bytes i, decodeCommand s.cfg bytes = .ok i →
      step (s.present (.cmd bytes)) = exec i { s with presented := none }) ∧
    (∀ block, step (s.present (.rx block)) = exec (decodeBlock s.expectedSid block) { s with presented := none }) ∧
    (s.ismState = .sendingStartComm → step (s.present .tau) = exec .tauIsmWrite { s with presented := none }) ∧
    (s.ismState ≠ .sendingStartComm → step (s.present .tau) = exec .tauDispatch { s with presented := none }) ∧
    (s.tauEnabled = false → ∀ i, tickHandler s = some i →
      step (s.present .tick) = andThen (exec i { s with presented := none }) (exec .tickSd)) ∧
    (s.tauEnabled = false → tickHandler s = none →
      step (s.present .tick) = exec .tickSd { s with presented := none })

/-- Log 25: whatever the state, the step after placing a row's word runs the instruction the decoder reads from it under
the state's configuration; right after reset that is the instruction `decodeTableWord` gives. -/
def Obligations.PlacedTableWordRuns : Prop :=
  (∀ (s : State) (nbits w : Nat) (i : Instr), decodeTableWordFor s.cfg nbits w = some i →
    step (s.withFetchWord nbits w) = exec i { s.withFetchWord nbits w with presented := none }) ∧
  (∀ (nbits w : Nat) (i : Instr), decodeTableWord nbits w = some i →
    step (State.reset.withFetchWord nbits w) = exec i { State.reset.withFetchWord nbits w with presented := none })

/-- R96(g): a code outside the table is ignored; so are, by the model's choice (log 15), bytes at the command port that
are no command for any other reason, those of a memory command with other widths than `CFG.MEM_REQ_PAYLOAD` fixes (R8,
D28) among them. -/
def Obligations.UnknownCommandCodeIsIgnored : Prop :=
  (∀ (s : State) (code : Byte) (rest : List Byte),
    code ∉ [0x01#8, 0x02#8, 0x03#8, 0x04#8, 0x10#8, 0x11#8, 0x12#8, 0x13#8, 0x14#8, 0x15#8] →
    step (s.present (.cmd (code :: rest))) = .next { s with presented := none }) ∧
  (∀ (s : State) (bytes : List Byte) (e : DecodeError), decodeCommand s.cfg bytes = .error e →
    step (s.present (.cmd bytes)) = .next { s with presented := none }) ∧
  (∀ (s : State) (ops : List Byte),
    (ops.length ≠ s.cfg.memReqPayload.addressBytes + s.cfg.memReqPayload.sizeBytes →
      step (s.present (.cmd (0x14#8 :: ops))) = .next { s with presented := none }) ∧
    (ops.length < s.cfg.memReqPayload.addressBytes →
      step (s.present (.cmd (0x15#8 :: ops))) = .next { s with presented := none }))

/-- R11: while an internal action is enabled a presented Tick waits: the step performs the action, and the Tick is
still presented to the step after it. -/
def Obligations.TickWaitsForInternalActions : Prop :=
  ∀ s : State, (s.present .tick).tauEnabled = true →
    (s.ismState = .sendingStartComm → step (s.present .tick) = exec .tauIsmWrite (s.present .tick)) ∧
    (s.ismState ≠ .sendingStartComm → step (s.present .tick) = exec .tauDispatch (s.present .tick))

/-- R297: of the events ready in one instant a step takes a cancel before an inbound block, that before an enabled
internal action, that before the Tick, and that before any other command; the platform's own events are not among them
(log 13). -/
def Obligations.SimultaneousEventsInFixedOrder : Prop :=
  ∀ (s : State) (now : Instant) (later : List Instant),
    s.presented = none → s.inputs = now :: later → now.reset = false → now.transportOpen = none →
    (∀ c, now.cmds.find? (isCancel s.cfg) = some c →
      step s = accept (.cmd c) { s with inputs := { now with cmds := now.cmds.erase c } :: later }) ∧
    (now.cmds.find? (isCancel s.cfg) = none →
      (∀ b rest, now.rx = b :: rest → step s = accept (.rx b) { s with inputs := { now with rx := rest } :: later }) ∧
      (now.rx = [] →
        (s.tauEnabled = true → step s = accept .tau s) ∧
        (s.tauEnabled = false →
          (now.tick = true → step s = accept .tick { s with inputs := { now with tick := false } :: later }) ∧
          (now.tick = false →
            ∀ c rest, now.cmds = c :: rest →
              step s = accept (.cmd c) { s with inputs := { now with cmds := rest } :: later }))))

/-- R330, R332: the block's reset gives every register its reset value and makes no output; nothing pending or queued
survives, and the Transport is not reset. That the model's own fields stay, `unitOut` and `callNo` among them, is the
model's choice (log 26), as are the values of `ecu_addr`, `pending.sid` and the content of `tx_frame` (log 5, 6, 7). -/
def Obligations.ResetClearsTheBlockAndNotTheTransport : Prop :=
  ∀ s : State, step (s.present .reset) = .next
    { s with
      presented := none, ismState := .idle, initMode := .fiveBaud, ecuAddr := 0x00#8, ecuAddrWritten := false,
      bitIdx := 0#4, initTimer := 0#16, failReason := .none, txFrame := [], txLen := 0#9, pendingValid := false,
      pendingSid := 0x00#8, respTimer := 0#16, guardTimer := 0#16, queue := [] }

/-! ### Frame Codec -/

/-- R123: round trip of the codec, and the two exceptions for the SID of a negative response (`NEG_RESP_SID`, 0x7F in
R8), for payloads up to `MAX_PAYLOAD` (254 in R8, which is also the most a length byte counts, R85; log 2). -/
def Obligations.DecodeUndoesEncode : Prop :=
  ∀ (c : Cfg) (target source sid : Byte) (payload : List Byte),
    payload.length ≤ c.maxPayload.toNat → c.maxPayload.toNat ≤ 254 →
    ∃ f, encodeFrame c target source sid payload = .frame f ∧
      (sid ≠ c.negRespSid → decodeFrame c.negRespSid f = .service sid payload) ∧
      (sid = c.negRespSid → ∀ rs ec rest, payload = rs :: ec :: rest →
        decodeFrame c.negRespSid f = .negative rs ec) ∧
      (sid = c.negRespSid → payload.length < 2 → decodeFrame c.negRespSid f = .error .frameTooShort)

/-- R124: one corrupted byte, the checksum and the length byte included, is always a `ChecksumMismatch`. -/
def Obligations.SingleByteCorruptionIsDetected : Prop :=
  ∀ (c : Cfg) (target source sid : Byte) (payload f : List Byte),
    encodeFrame c target source sid payload = .frame f →
    ∀ (i : Nat) (v : Byte), (h : i < f.length) → v ≠ f[i] →
      decodeFrame c.negRespSid (f.set i v) = .error .checksumMismatch

/-- R122, lines 1 to 9 in their order, R125, R298: too short; the checksum; a block of five bytes (D12); the length
byte, which no block above 260 bytes can match; then a negative response, or one too short for its two bytes (D13), or a
service response with the bytes between SID and checksum. `neg` is `NEG_RESP_SID`, 0x7F in R8 (log 2). -/
def Obligations.DecodeChecksInOrder : Prop :=
  ∀ (neg : Byte) (b : List Byte),
    (b.length < 5 → decodeFrame neg b = .error .frameTooShort) ∧
    (5 ≤ b.length → b.getLast? ≠ some (checksumOf b.dropLast) → decodeFrame neg b = .error .checksumMismatch) ∧
    (b.getLast? = some (checksumOf b.dropLast) →
      (b.length = 5 → decodeFrame neg b = .error .lengthMismatch) ∧
      (6 ≤ b.length → (b.getD 3 0#8).toNat ≠ b.length - 5 → decodeFrame neg b = .error .lengthMismatch) ∧
      (260 < b.length → decodeFrame neg b = .error .lengthMismatch) ∧
      (6 ≤ b.length → (b.getD 3 0#8).toNat = b.length - 5 →
        (b.getD 4 0#8 = neg → b.length < 8 → decodeFrame neg b = .error .frameTooShort) ∧
        (b.getD 4 0#8 = neg → 8 ≤ b.length → decodeFrame neg b = .negative (b.getD 5 0#8) (b.getD 6 0#8)) ∧
        (b.getD 4 0#8 ≠ neg →
          decodeFrame neg b = .service (b.getD 4 0#8) ((b.drop 5).take (b.length - 6)))))

/-- R101, R120, R122, R86: `CHECKSUM` and `DECODE` as units show their value in `unitOut` (log 19) and change nothing
else; the checksum is the sum of the bytes modulo 256, and an 8-bit accumulator that drops carries gives the same. -/
def Obligations.ChecksumAndDecodeUnits : Prop :=
  ∀ (s : State) (b : List Byte),
    (∃ v : Byte, v.toNat = (b.map BitVec.toNat).sum % 256 ∧ v = b.foldl (· + ·) 0x00#8 ∧
      exec (.checksum b) s = .next { s with unitOut := some (.checksum v) }) ∧
    exec (.decode b) s = .next { s with unitOut := some (.decoded (decodeFrame s.cfg.negRespSid b)) }

/-- R121: `ENCODE` as a unit (log 19): the frame byte by byte, or `InvalidPayload` exactly above `MAX_PAYLOAD` bytes
(254 in R8; log 2). -/
def Obligations.EncodeUnit : Prop :=
  ∀ (s : State) (target source sid : Byte) (payload : List Byte),
    (s.cfg.maxPayload.toNat < payload.length →
      exec (.encode target source sid payload) s = .next { s with unitOut := some (.encoded .invalidPayload) }) ∧
    (payload.length ≤ s.cfg.maxPayload.toNat →
      ∃ h ck, h = s.cfg.formatByte :: target :: source :: byte (1 + payload.length) :: sid :: payload ∧
        ck.toNat = (h.map BitVec.toNat).sum % 256 ∧
        exec (.encode target source sid payload) s =
          .next { s with unitOut := some (.encoded (.frame (h ++ [ck]))) })

/-! ### DTC Decoder -/

/-- R260: `DTC_DECODE` as a unit (log 19): empty without a count byte or with groups missing, else `count` DTCs in
payload order. -/
def Obligations.DtcDecodeUnit : Prop :=
  ∀ (s : State) (payload : List Byte), ∃ out : List Dtc,
    exec (.dtcDecode payload) s = .next { s with unitOut := some (.dtcs out) } ∧
    (payload = [] → out = []) ∧
    (∀ count rest, payload = count :: rest →
      (payload.length < 1 + 3 * count.toNat → out = []) ∧
      (1 + 3 * count.toNat ≤ payload.length →
        out.length = count.toNat ∧
        ∀ k, k < count.toNat →
          out[k]? = some ⟨dtcCodeOf (payload.getD (1 + 3 * k) 0#8) (payload.getD (2 + 3 * k) 0#8),
            payload.getD (3 + 3 * k) 0#8⟩))

/-- R261, R262: `DTC_CODE` as a unit (log 19); the letter is that of the top two bits of the high byte only, the
digits are the 14 remaining bits in upper-case hexadecimal. -/
def Obligations.DtcCodeUnit : Prop :=
  ∀ (s : State) (h l : Byte), ∃ c : DtcCode,
    exec (.dtcCode h l) s = .next { s with unitOut := some (.code c) } ∧
    c.c0 = [0x50#8, 0x43#8, 0x42#8, 0x55#8].getD (h.extractLsb' 6 2).toNat 0#8 ∧
    c.c1 = upperHexDigits.getD (h.extractLsb' 4 2).toNat 0#8 ∧
    c.c2 = upperHexDigits.getD (h.extractLsb' 0 4).toNat 0#8 ∧
    c.c3 = upperHexDigits.getD (l.extractLsb' 4 4).toNat 0#8 ∧
    c.c4 = upperHexDigits.getD (l.extractLsb' 0 4).toNat 0#8

/-! ### Initialization State Machine -/

/-- R152 lines 1 to 3, R282: `START_INIT` of either variant while `Synchronizing` or with the SD not idle is answered
`Busy` and changes nothing; otherwise, with the Transport not open, the run fails at once by the failure entry of R299
(log 14) and `ecu_addr` stays. -/
def Obligations.StartInitRefusedOrNotOpen : Prop :=
  ∀ (s : State) (a : Byte) (i : Instr), i = .startInit5Baud a ∨ i = .startInitFast a →
    (s.linkState = .synchronizing ∨ s.pendingValid = true ∨ s.queue ≠ [] →
      exec i s = .next { s with outputs := s.outputs ++ [.ack (.err .busy)] }) ∧
    (s.linkState ≠ .synchronizing → s.pendingValid = false → s.queue = [] → s.tOpen = false →
      exec i s = .next
        { s with
          ismState := .failed, failReason := .transportNotOpen, initTimer := 0#16, txLen := 0#9
          outputs := s.outputs ++
            [.call (.isOpen false), .ack (.err .transportNotOpen), .notify (.failed .transportNotOpen)] })

/-- R152 lines 4 to 6, R153: an accepted `START_INIT_5BAUD` writes `ecu_addr` and begins the start bit, or fails; the
level after a failed call is a free value (log 10), `ecuAddrWritten` the model's record of the write (log 5). -/
def Obligations.StartInit5BaudBeginsTheStartBit : Prop :=
  ∀ (s : State) (a : Byte),
    s.linkState ≠ .synchronizing → s.pendingValid = false → s.queue = [] → s.tOpen = true →
    (s.answer = true → exec (.startInit5Baud a) s = .next
      { s with
        ecuAddr := a, ecuAddrWritten := true, initMode := .fiveBaud, failReason := .none, bitIdx := 0#4
        ismState := .sendingAddress, initTimer := s.cfg.tBit, tLineLow := true
        answers := s.answers.tail, callNo := s.callNo + 1
        outputs := s.outputs ++
          [.call (.isOpen true), .ack .ok, .notify .synchronizing, .status .startingFiveBaud,
            .call (.setLineState true true)] }) ∧
    (s.answer = false → exec (.startInit5Baud a) s = .next
      { s with
        ecuAddr := a, ecuAddrWritten := true, initMode := .fiveBaud, failReason := .ioSetLineState, bitIdx := 0#4
        ismState := .failed, initTimer := 0#16, txLen := 0#9, tLineLow := Config.freeLineLow s.callNo
        answers := s.answers.tail, callNo := s.callNo + 1
        outputs := s.outputs ++
          [.call (.isOpen true), .ack .ok, .notify .synchronizing, .status .startingFiveBaud,
            .call (.setLineState true false), .notify (.failed .ioSetLineState)] })

/-- R152 lines 4 to 6, R160: an accepted `START_INIT_FAST` writes `ecu_addr` and begins the low pulse, or fails; the
level after a failed call is a free value (log 10), `ecuAddrWritten` the model's record of the write (log 5). -/
def Obligations.StartInitFastBeginsTheLowPulse : Prop :=
  ∀ (s : State) (a : Byte),
    s.linkState ≠ .synchronizing → s.pendingValid = false → s.queue = [] → s.tOpen = true →
    (s.answer = true → exec (.startInitFast a) s = .next
      { s with
        ecuAddr := a, ecuAddrWritten := true, initMode := .fast, failReason := .none
        ismState := .pulseLow, initTimer := s.cfg.tPulseLow, tLineLow := true
        answers := s.answers.tail, callNo := s.callNo + 1
        outputs := s.outputs ++
          [.call (.isOpen true), .ack .ok, .notify .synchronizing, .call (.setLineState true true)] }) ∧
    (s.answer = false → exec (.startInitFast a) s = .next
      { s with
        ecuAddr := a, ecuAddrWritten := true, initMode := .fast, failReason := .ioSetLineState
        ismState := .failed, initTimer := 0#16, txLen := 0#9, tLineLow := Config.freeLineLow s.callNo
        answers := s.answers.tail, callNo := s.callNo + 1
        outputs := s.outputs ++
          [.call (.isOpen true), .ack .ok, .notify .synchronizing, .call (.setLineState true false),
            .notify (.failed .ioSetLineState)] })

/-- R180: `CANCEL_INIT` sets the steady rate, releases the line and fails the run, whatever the two calls answer (log
10 for the line and rate after a failed call); with nothing to cancel it only acknowledges. -/
def Obligations.CancelInitCleansUpAndFails : Prop :=
  ∀ s : State,
    (s.linkState ≠ .synchronizing →
      exec .cancelInit s = .next { s with outputs := s.outputs ++ [.ack .noEffect] }) ∧
    (s.linkState = .synchronizing → exec .cancelInit s = .next
      { s with
        ismState := .failed, failReason := .cancelled, initTimer := 0#16, txLen := 0#9
        tBaud := if s.answer then s.cfg.baudSteady else Config.freeBaud s.callNo
        tLineLow := if s.takeAnswer.answer then false else Config.freeLineLow (s.callNo + 1)
        answers := s.answers.tail.tail, callNo := s.callNo + 2
        outputs := s.outputs ++
          [.ack .ok, .call (.setBaudRate s.cfg.baudSteady s.answer), .call (.setLineState false s.takeAnswer.answer),
            .notify (.failed .cancelled)] })

/-- R155: a Tick in bits 0 to 8 of the address character: one less on the timer; on expiry the next bit's level is put
on the line: the `N_DATA_BITS` data bits (8 in R8; log 2) least significant first, then high (with 8 data bits the stop
bit, R90; with fewer also the periods before it, log 28; a count above 8 is no configuration, Cfg.wf); or the run fails, the
level then a free value (log 10). -/
def Obligations.TickAdvancesTheAddressCharacter : Prop :=
  ∀ s : State, s.ismState = .sendingAddress → s.bitIdx < 9#4 →
    (1#16 < s.initTimer →
      exec .tickSendingAddressNextBit s = .next { s with initTimer := s.initTimer - 1#16 }) ∧
    (s.initTimer = 1#16 →
      ∃ low : Bool,
        (s.bitIdx.toNat < s.cfg.nDataBits.toNat → low = !s.ecuAddr.getLsbD s.bitIdx.toNat) ∧
        (s.cfg.nDataBits.toNat ≤ s.bitIdx.toNat → low = false) ∧
        (s.answer = true → exec .tickSendingAddressNextBit s = .next
          { s with
            bitIdx := s.bitIdx + 1#4, initTimer := s.cfg.tBit, tLineLow := low
            answers := s.answers.tail, callNo := s.callNo + 1
            outputs := s.outputs ++ [.call (.setLineState low true)] }) ∧
        (s.answer = false → exec .tickSendingAddressNextBit s = .next
          { s with
            bitIdx := s.bitIdx + 1#4, ismState := .failed, failReason := .ioSetLineState, initTimer := 0#16
            txLen := 0#9, tLineLow := Config.freeLineLow s.callNo
            answers := s.answers.tail, callNo := s.callNo + 1
            outputs := s.outputs ++ [.call (.setLineState low false), .notify (.failed .ioSetLineState)] }))

/-- R155, R156: a Tick in the stop bit: one less on the timer; on expiry the steady rate is set, or the run fails, the
rate then a free value (log 10). -/
def Obligations.TickAfterTheStopBitSetsTheRate : Prop :=
  ∀ s : State, s.ismState = .sendingAddress → s.bitIdx = 9#4 →
    (1#16 < s.initTimer →
      exec .tickSendingAddressDone s = .next { s with initTimer := s.initTimer - 1#16 }) ∧
    (s.initTimer = 1#16 →
      (s.answer = true → exec .tickSendingAddressDone s = .next
        { s with
          ismState := .awaitingSync, initTimer := s.cfg.tSettle, tBaud := s.cfg.baudSteady
          answers := s.answers.tail, callNo := s.callNo + 1
          outputs := s.outputs ++ [.call (.setBaudRate s.cfg.baudSteady true)] }) ∧
      (s.answer = false → exec .tickSendingAddressDone s = .next
        { s with
          ismState := .failed, failReason := .ioSetBaudRate, initTimer := 0#16, txLen := 0#9
          tBaud := Config.freeBaud s.callNo, answers := s.answers.tail, callNo := s.callNo + 1
          outputs := s.outputs ++
            [.call (.setBaudRate s.cfg.baudSteady false), .notify (.failed .ioSetBaudRate)] }))

/-- R157: the settle interval ends in `Ready`, whatever has been received; no Transport call is made. -/
def Obligations.TickAwaitingSyncEndsInReady : Prop :=
  ∀ s : State, s.ismState = .awaitingSync →
    (1#16 < s.initTimer → exec .tickAwaitingSync s = .next { s with initTimer := s.initTimer - 1#16 }) ∧
    (s.initTimer = 1#16 → exec .tickAwaitingSync s = .next
      { s with
        ismState := .ready, initTimer := 0#16
        outputs := s.outputs ++ [.notify .ready, .status .initSuccessful] })

/-- R161: the low pulse ends with the line high, or the run fails, the level then a free value (log 10). -/
def Obligations.TickPulseLowRaisesTheLine : Prop :=
  ∀ s : State, s.ismState = .pulseLow →
    (1#16 < s.initTimer → exec .tickPulseLow s = .next { s with initTimer := s.initTimer - 1#16 }) ∧
    (s.initTimer = 1#16 →
      (s.answer = true → exec .tickPulseLow s = .next
        { s with
          ismState := .pulseHigh, initTimer := s.cfg.tPulseHigh, tLineLow := false
          answers := s.answers.tail, callNo := s.callNo + 1
          outputs := s.outputs ++ [.call (.setLineState false true)] }) ∧
      (s.answer = false → exec .tickPulseLow s = .next
        { s with
          ismState := .failed, failReason := .ioSetLineState, initTimer := 0#16, txLen := 0#9
          tLineLow := Config.freeLineLow s.callNo, answers := s.answers.tail, callNo := s.callNo + 1
          outputs := s.outputs ++ [.call (.setLineState false false), .notify (.failed .ioSetLineState)] }))

/-- R162, R92, R126: the high pulse ends with the steady rate set and the seven bytes of the StartCommunication frame, which
are what `ENCODE` gives, in `tx_frame[0..7]`; every other byte of the buffer reads as before; or the run fails, the rate
then a free value (log 10). With no room for a payload byte in `MAX_PAYLOAD`, which no well-formed configuration has,
`ENCODE` answers `InvalidPayload` and the run fails with a reason that is a free value (R281; log 21). -/
def Obligations.TickPulseHighBuildsTheStartCommFrame : Prop :=
  ∀ s : State, s.ismState = .pulseHigh →
    (1#16 < s.initTimer → exec .tickPulseHigh s = .next { s with initTimer := s.initTimer - 1#16 }) ∧
    (s.initTimer = 1#16 →
      (s.answer = true → s.cfg.maxPayload ≠ 0#8 → ∃ (m : Memory) (ck : Byte),
        exec .tickPulseHigh s = .next
          { s with
            ismState := .sendingStartComm, initTimer := 0#16, tBaud := s.cfg.baudSteady, txFrame := m, txLen := 7#9
            answers := s.answers.tail, callNo := s.callNo + 1
            outputs := s.outputs ++ [.call (.setBaudRate s.cfg.baudSteady true)] } ∧
        encodeFrame s.cfg s.ecuAddr s.cfg.testerAddr s.cfg.sidStartComm [s.cfg.sessionType] =
          .frame (m.readBytes 0 7) ∧
        m.readBytes 0 7 =
          [s.cfg.formatByte, s.ecuAddr, s.cfg.testerAddr, 0x02#8, s.cfg.sidStartComm, s.cfg.sessionType, ck] ∧
        ck = s.cfg.formatByte + s.ecuAddr + s.cfg.testerAddr + 0x02#8 + s.cfg.sidStartComm +
          s.cfg.sessionType ∧
        (s.txFrame.wf = true → m.wf = true) ∧
        ∀ a, 7 ≤ a → m.read a = s.txFrame.read a) ∧
      (s.answer = true → s.cfg.maxPayload = 0#8 → ∃ r : FailReason,
        exec .tickPulseHigh s = .next
          { s with
            ismState := .failed, failReason := r, initTimer := 0#16, txLen := 0#9
            tBaud := s.cfg.baudSteady, answers := s.answers.tail, callNo := s.callNo + 1
            outputs := s.outputs ++ [.call (.setBaudRate s.cfg.baudSteady true), .notify (.failed r)] }) ∧
      (s.answer = false → exec .tickPulseHigh s = .next
        { s with
          ismState := .failed, failReason := .ioSetBaudRate, initTimer := 0#16, txLen := 0#9
          tBaud := Config.freeBaud s.callNo, answers := s.answers.tail, callNo := s.callNo + 1
          outputs := s.outputs ++
            [.call (.setBaudRate s.cfg.baudSteady false), .notify (.failed .ioSetBaudRate)] }))

/-- R176: in `SendingStartComm` the frame in `tx_frame` is written whole and the link is `Ready`, or the run fails;
the row `SID_START_COMMUNICATION` is that write when the frame's SID is `SID_START_COMM`, 0x81 in R8 (log 2, 17). The
result of the write is the environment's bit, whether the Transport is open or not (R13; log 11). -/
def Obligations.StartCommFrameIsWrittenThenReady : Prop :=
  ∀ (s : State) (i : Instr), s.ismState = .sendingStartComm → s.txLen.toNat ≤ 260 →
    (i = .tauIsmWrite ∨ (i = .sidStartCommunication ∧ s.txFrame.read 4 = s.cfg.sidStartComm)) →
    (s.answer = true → exec i s = .next
      { s with
        ismState := .ready, txLen := 0#9, answers := s.answers.tail, callNo := s.callNo + 1
        outputs := s.outputs ++
          [.call (.write (s.txFrame.readBytes 0 s.txLen.toNat) true), .notify .ready, .status .initSuccessful] }) ∧
    (s.answer = false → exec i s = .next
      { s with
        ismState := .failed, failReason := .ioWrite, initTimer := 0#16, txLen := 0#9
        answers := s.answers.tail, callNo := s.callNo + 1
        outputs := s.outputs ++
          [.call (.write (s.txFrame.readBytes 0 s.txLen.toNat) false), .notify (.failed .ioWrite)] })

/-- R159, R299: the failure entry. -/
def Obligations.FailEntersFailed : Prop :=
  ∀ (s : State) (r : FailReason), exec (.fail r) s = .next
    { s with
      ismState := .failed, failReason := r, initTimer := 0#16, txLen := 0#9
      outputs := s.outputs ++ [.notify (.failed r)] }

/-- R151: an event in a state the table does not pair it with changes nothing; nor does the next-bit handler after the
last bit, the handler of the stop bit's end before it (R155, R156; log 16), a disabled internal action (R176, R210; log
16), or a request row whose frame is not the one that waits to be written (log 17). -/
def Obligations.HandlersOutsideTheirStateDoNothing : Prop :=
  ∀ s : State,
    (s.ismState ≠ .sendingAddress ∨ 9#4 ≤ s.bitIdx → exec .tickSendingAddressNextBit s = .next s) ∧
    (s.ismState ≠ .sendingAddress ∨ s.bitIdx ≠ 9#4 → exec .tickSendingAddressDone s = .next s) ∧
    (s.ismState ≠ .awaitingSync → exec .tickAwaitingSync s = .next s) ∧
    (s.ismState ≠ .pulseLow → exec .tickPulseLow s = .next s) ∧
    (s.ismState ≠ .pulseHigh → exec .tickPulseHigh s = .next s) ∧
    (s.ismState ≠ .sendingStartComm → exec .tauIsmWrite s = .next s) ∧
    (s.ismState ≠ .sendingStartComm ∨ s.txFrame.read 4 ≠ s.cfg.sidStartComm →
      exec .sidStartCommunication s = .next s) ∧
    (s.dispatchEnabled = false → exec .tauDispatch s = .next s) ∧
    (s.dispatchEnabled = false ∨ s.queue.head? ≠ some (readDtcsRequest s.cfg) → exec .sidReadDtcs s = .next s) ∧
    (s.dispatchEnabled = false ∨ s.queue.head? ≠ some (testerPresentRequest s.cfg) →
      exec .sidTesterPresent s = .next s)

/-! ### Session Dispatcher -/

/-- R201 lines 5 and 6: an accepted request is appended at the tail; only `SID_TESTER_PRESENT`, 0x3E in R8,
expects no response (log 2). -/
def Obligations.SendServiceEnqueues : Prop :=
  ∀ (s : State) (sid : Byte) (payload : List Byte),
    payload.length ≤ s.cfg.maxPayload.toNat → s.ismState = .ready → s.queue.length ≠ s.cfg.queueDepth →
    (s.cfg.queueMode = .reject → s.pendingValid = false ∧ s.queue = []) →
    exec (.sendService sid payload) s = .next
      { s with
        queue := s.queue ++ [⟨sid, payload, decide (sid ≠ s.cfg.sidTesterPresent)⟩]
        outputs := s.outputs ++ [.ack .ok] }

/-- R201 lines 1 to 4, R290, R305: the refusals, in their order, without any state change; `MAX_PAYLOAD` is 254 in R8
(log 2). -/
def Obligations.SendServiceRefusals : Prop :=
  ∀ (s : State) (sid : Byte) (payload : List Byte),
    (s.cfg.maxPayload.toNat < payload.length →
      exec (.sendService sid payload) s = .next { s with outputs := s.outputs ++ [.ack (.err .invalidPayload)] }) ∧
    (payload.length ≤ s.cfg.maxPayload.toNat →
      (s.ismState ≠ .ready ∨ s.queue.length = s.cfg.queueDepth ∨
        (s.cfg.queueMode = .reject ∧ (s.pendingValid = true ∨ s.queue ≠ []))) →
      exec (.sendService sid payload) s = .next { s with outputs := s.outputs ++ [.ack (.err .busy)] })

/-- R106, R235 to R239, R8: the convenience commands are exactly the requests they expand to, accepted or refused; the
SIDs are fields of CFG (0x18 and 0x3E in R8; log 2), the OPEN ones of any value, and the payloads and the widths of
`address` and `size` are those of `CFG.MEM_REQ_PAYLOAD` (log 3, 4). With operands of other widths a memory command is no
command and has no effect (log 15). -/
def Obligations.ConvenienceCommandsExpand : Prop :=
  ∀ (s : State) (address size data : List Byte),
    exec .readDtcs s = exec (.sendService s.cfg.sidReadDtc []) s ∧
    exec .clearDtcs s = exec (.sendService s.cfg.sidClearDtc s.cfg.memReqPayload.clear) s ∧
    exec .testerPresent s = exec (.sendService s.cfg.sidTesterPresent []) s ∧
    (address.length = s.cfg.memReqPayload.addressBytes ∧ size.length = s.cfg.memReqPayload.sizeBytes →
      exec (.readMemory address size) s =
        exec (.sendService s.cfg.sidReadMem (s.cfg.memReqPayload.readBuilder.build address size)) s) ∧
    (¬(address.length = s.cfg.memReqPayload.addressBytes ∧ size.length = s.cfg.memReqPayload.sizeBytes) →
      exec (.readMemory address size) s = .next s) ∧
    (address.length = s.cfg.memReqPayload.addressBytes →
      exec (.writeMemory address data) s =
        exec (.sendService s.cfg.sidWriteMem (s.cfg.memReqPayload.writeBuilder.build address data)) s) ∧
    (address.length ≠ s.cfg.memReqPayload.addressBytes → exec (.writeMemory address data) s = .next s)

/-- R235 to R239 with R201: where a request is accepted each convenience command enqueues its own request; the
SIDs are fields of CFG (0x18 and 0x3E in R8; log 2), the OPEN ones of any value, and the payloads and the widths of
`address` and `size` are those of `CFG.MEM_REQ_PAYLOAD` (log 3, 4). -/
def Obligations.ConvenienceCommandsEnqueue : Prop :=
  ∀ (s : State) (i : Instr) (sid : Byte) (payload : List Byte),
    ((i = .readDtcs ∧ sid = s.cfg.sidReadDtc ∧ payload = []) ∨
      (i = .testerPresent ∧ sid = s.cfg.sidTesterPresent ∧ payload = []) ∨
      (i = .clearDtcs ∧ sid = s.cfg.sidClearDtc ∧ payload = s.cfg.memReqPayload.clear) ∨
      (∃ address size, i = .readMemory address size ∧ sid = s.cfg.sidReadMem ∧
        s.cfg.memReqPayload.read address size = some payload) ∨
      (∃ address data, i = .writeMemory address data ∧ sid = s.cfg.sidWriteMem ∧
        s.cfg.memReqPayload.write address data = some payload)) →
    payload.length ≤ s.cfg.maxPayload.toNat → s.ismState = .ready → s.queue.length ≠ s.cfg.queueDepth →
    (s.cfg.queueMode = .reject → s.pendingValid = false ∧ s.queue = []) →
    exec i s = .next
      { s with
        queue := s.queue ++ [⟨sid, payload, decide (sid ≠ s.cfg.sidTesterPresent)⟩]
        outputs := s.outputs ++ [.ack .ok] }

/-- R230: `CANCEL_REQUEST` resolves the pending request and keeps the queue; otherwise it only acknowledges. -/
def Obligations.CancelRequestResolvesThePending : Prop :=
  ∀ s : State,
    (s.pendingValid = false → exec .cancelRequest s = .next { s with outputs := s.outputs ++ [.ack .noEffect] }) ∧
    (s.pendingValid = true → exec .cancelRequest s = .next
      { s with
        pendingValid := false, respTimer := 0#16, guardTimer := s.cfg.tP3Min
        outputs := s.outputs ++ [.ack .ok, .result (.err .cancelled)] })

/-- R210: an enabled `Dispatch` takes the head of the queue, builds its frame in `tx_frame`, writes it whole, and
awaits the response; the row `SID_READ_DTCS` is that of the read-DTCs request (log 17). Bytes of `tx_frame` beyond the
frame read as before. The result of the write is the environment's bit (R13; log 11). -/
def Obligations.DispatchWritesAndAwaits : Prop :=
  ∀ (s : State) (req : ServiceRequest) (rest : List ServiceRequest) (i : Instr),
    s.ismState = .ready → s.pendingValid = false → s.guardTimer = 0#16 → s.queue = req :: rest →
    req.payload.length ≤ s.cfg.maxPayload.toNat → req.expectsResponse = true → s.answer = true →
    (i = .tauDispatch ∨ (i = .sidReadDtcs ∧ req = readDtcsRequest s.cfg)) →
    ∃ (m : Memory) (h : List Byte) (ck : Byte),
      h = s.cfg.formatByte :: s.ecuAddr :: s.cfg.testerAddr :: byte (1 + req.payload.length) :: req.serviceId ::
        req.payload ∧
      ck = h.foldl (· + ·) 0x00#8 ∧
      exec i s = .next
        { s with
          queue := rest, txFrame := m, txLen := 0#9
          pendingValid := true, pendingSid := req.serviceId, respTimer := s.cfg.tRespTimeout
          answers := s.answers.tail, callNo := s.callNo + 1
          outputs := s.outputs ++ [.call (.write (h ++ [ck]) true)] } ∧
      m.readBytes 0 (6 + req.payload.length) = h ++ [ck] ∧
      (s.txFrame.wf = true → m.wf = true) ∧
      ∀ a, 6 + req.payload.length ≤ a → m.read a = s.txFrame.read a

/-- R210, R211: a request that expects no response is resolved with `Sent` by its write and loads the guard; the row
`SID_TESTER_PRESENT` is that of testerPresent (log 17). -/
def Obligations.DispatchFireAndForget : Prop :=
  ∀ (s : State) (req : ServiceRequest) (rest : List ServiceRequest) (i : Instr),
    s.ismState = .ready → s.pendingValid = false → s.guardTimer = 0#16 → s.queue = req :: rest →
    req.payload.length ≤ s.cfg.maxPayload.toNat → req.expectsResponse = false → s.answer = true →
    (i = .tauDispatch ∨ (i = .sidTesterPresent ∧ req = testerPresentRequest s.cfg)) →
    ∃ (m : Memory) (h : List Byte) (ck : Byte),
      h = s.cfg.formatByte :: s.ecuAddr :: s.cfg.testerAddr :: byte (1 + req.payload.length) :: req.serviceId ::
        req.payload ∧
      ck = h.foldl (· + ·) 0x00#8 ∧
      exec i s = .next
        { s with
          queue := rest, txFrame := m, txLen := 0#9, respTimer := 0#16, guardTimer := s.cfg.tP3Min
          answers := s.answers.tail, callNo := s.callNo + 1
          outputs := s.outputs ++ [.call (.write (h ++ [ck]) true), .result .sent] } ∧
      ∀ a, 6 + req.payload.length ≤ a → m.read a = s.txFrame.read a

/-- R212, R351, R282: a failed write, which is how a closed Transport shows to the SD (log 11), resolves the request with
`TransportIoFailure`, asks for a re-initialization and leaves the link `Ready` and the rest of the queue; each row
that dispatches (log 17). -/
def Obligations.DispatchWriteFailureResolves : Prop :=
  ∀ (s : State) (req : ServiceRequest) (rest : List ServiceRequest) (i : Instr),
    s.ismState = .ready → s.pendingValid = false → s.guardTimer = 0#16 → s.queue = req :: rest →
    req.payload.length ≤ s.cfg.maxPayload.toNat → s.answer = false →
    (i = .tauDispatch ∨ (i = .sidReadDtcs ∧ req = readDtcsRequest s.cfg) ∨
      (i = .sidTesterPresent ∧ req = testerPresentRequest s.cfg)) →
    ∃ (m : Memory) (f : List Byte),
      encodeFrame s.cfg s.ecuAddr s.cfg.testerAddr req.serviceId req.payload = .frame f ∧
      exec i s = .next
        { s with
          queue := rest, txFrame := m, txLen := 0#9, respTimer := 0#16, guardTimer := s.cfg.tP3Min
          answers := s.answers.tail, callNo := s.callNo + 1
          outputs := s.outputs ++
            [.call (.write f false), .result (.err .transportIoFailure), .reinitRequest] } ∧
      ∀ a, 6 + req.payload.length ≤ a → m.read a = s.txFrame.read a

/-- R227: the resolution. -/
def Obligations.ResolveLoadsTheGuard : Prop :=
  ∀ (s : State) (r : RequestResult), exec (.resolve r) s = .next
    { s with
      pendingValid := false, respTimer := 0#16, guardTimer := s.cfg.tP3Min
      outputs := s.outputs ++ [.result r] }

/-- R218, R215, R220: a block on which `DECODE` fails, whatever row its bytes are given as (log 18), is copied to the
caller and logged; no register changes. -/
def Obligations.MalformedBlockIsNoise : Prop :=
  ∀ (s : State) (i : Instr) (block : List Byte) (e : DecodeErr),
    encode i = some (.inbound, block) → decodeFrame s.cfg.negRespSid block = .error e →
    exec i s = .next { s with outputs := s.outputs ++ [.rawRx block, .log (.decodeError e)] }

/-- R219: a frame that is not the awaited response, whatever row its bytes have (log 18), is copied and logged as
unmatched; no register changes. -/
def Obligations.UnmatchedFrameChangesNothing : Prop :=
  ∀ (s : State) (i : Instr) (block : List Byte), encode i = some (.inbound, block) →
    ((∃ sid p, decodeFrame s.cfg.negRespSid block = .service sid p ∧
        (s.pendingValid = false ∨ sid ≠ s.pendingSid + s.cfg.posRespOffset)) ∨
      (∃ rs ec, decodeFrame s.cfg.negRespSid block = .negative rs ec ∧ s.pendingValid = false)) →
    exec i s = .next { s with outputs := s.outputs ++ [.rawRx block, .log .unmatched] }

/-- R216, R88: the frame with the awaited SID, in each row such a frame has (`FRAME`, `POSITIVE_RESPONSE`, `RX`, and
the rows of one SID), resolves the pending request with its raw payload; the DTCs are decoded exactly when the
request's SID was `CFG.SID_READ_DTC` (R215). -/
def Obligations.PositiveResponseResolves : Prop :=
  ∀ (s : State) (hdr : Header) (sid : Byte) (p : List Byte) (i : Instr),
    p.length ≤ 254 → sid ≠ s.cfg.negRespSid → s.pendingValid = true → sid = s.pendingSid + s.cfg.posRespOffset →
    (i = .positiveResponse hdr sid p ∨ i = .rx (buildFrame hdr sid p) ∨
      i = .frame hdr (byte (1 + p.length)) sid p (checksumOf (frameBody hdr sid p)) ∨
      (sid = 0x58#8 ∧ i = .rspReadDtcs hdr p) ∨ (sid = 0x7E#8 ∧ i = .rspTesterPresent hdr p) ∨
      (sid = 0xC1#8 ∧ i = .rspStartCommunication hdr p)) →
    exec i s = .next
      { s with
        pendingValid := false, respTimer := 0#16, guardTimer := s.cfg.tP3Min
        outputs := s.outputs ++
          [.rawRx (buildFrame hdr sid p),
            .result (.response sid p (if s.pendingSid = s.cfg.sidReadDtc then some (dtcDecodeOf p) else none))] }

/-- R93, R216, R260: a read-DTCs response resolves the pending read-DTCs request and carries one DTC per group, where
its SID 0x58 is the one awaited, as it is for the values R8 gives (0x18 + 0x40). -/
def Obligations.ReadDtcsResponseCarriesTheDtcs : Prop :=
  ∀ (s : State) (hdr : Header) (count : Byte) (groups : List Byte),
    s.pendingValid = true → s.pendingSid = s.cfg.sidReadDtc → s.cfg.sidReadDtc + s.cfg.posRespOffset = 0x58#8 →
    s.cfg.negRespSid ≠ 0x58#8 → groups.length = 3 * count.toNat → groups.length ≤ 253 →
    ∃ dtcs : List Dtc, dtcs.length = count.toNat ∧
      exec (.rspReadDtcs hdr (count :: groups)) s = .next
        { s with
          pendingValid := false, respTimer := 0#16, guardTimer := s.cfg.tP3Min
          outputs := s.outputs ++
            [.rawRx (buildFrame hdr 0x58#8 (count :: groups)),
              .result (.response 0x58#8 (count :: groups) (some dtcs))] }

/-- R217, R89: any block that `DECODE` reads as a negative response resolves the pending request, whatever SID it names;
the row `NEGATIVE_RESPONSE` is that of such a frame, of which bytes after the error code are ignored. -/
def Obligations.NegativeResponseResolves : Prop :=
  ∀ (s : State) (rs ec : Byte), s.pendingValid = true →
    (∀ block, decodeFrame s.cfg.negRespSid block = .negative rs ec →
      exec (.rx block) s = .next
        { s with
          pendingValid := false, respTimer := 0#16, guardTimer := s.cfg.tP3Min
          outputs := s.outputs ++ [.rawRx block, .result (.negative rs ec)] }) ∧
    (∀ (hdr : Header) (rest : List Byte), s.cfg.negRespSid = 0x7F#8 → rest.length ≤ 252 →
      exec (.negativeResponse hdr rs ec rest) s = .next
        { s with
          pendingValid := false, respTimer := 0#16, guardTimer := s.cfg.tP3Min
          outputs := s.outputs ++
            [.rawRx (buildFrame hdr 0x7F#8 (rs :: ec :: rest)), .result (.negative rs ec)] })

/-- R345, R219: the answers to testerPresent and to StartCommunication are discarded unless the caller itself awaits
exactly their SID; and since testerPresent never becomes pending (R201, R210), its answer matches nothing, whatever is
pending, where 0x7E is the SID of its response, as it is for the values R8 gives (0x3E + 0x40). -/
def Obligations.UnawaitedAnswersAreDiscarded : Prop :=
  ∀ (s : State) (hdr : Header) (p : List Byte), p.length ≤ 254 →
    (s.cfg.negRespSid ≠ 0x7E#8 →
      s.pendingValid = false ∨ s.pendingSid + s.cfg.posRespOffset ≠ 0x7E#8 ∨
        (Inv s ∧ s.cfg.sidTesterPresent + s.cfg.posRespOffset = 0x7E#8) →
      exec (.rspTesterPresent hdr p) s = .next
        { s with outputs := s.outputs ++ [.rawRx (buildFrame hdr 0x7E#8 p), .log .unmatched] }) ∧
    (s.cfg.negRespSid ≠ 0xC1#8 → s.pendingValid = false ∨ s.pendingSid + s.cfg.posRespOffset ≠ 0xC1#8 →
      exec (.rspStartCommunication hdr p) s = .next
        { s with outputs := s.outputs ++ [.rawRx (buildFrame hdr 0xC1#8 p), .log .unmatched] })

/-- R225, R11: the SD's part of a Tick: both timers count down and stop at 0, and the response timer's expiry resolves
the request with `ResponseTimeout`. -/
def Obligations.TickRunsTheDispatcherTimers : Prop :=
  ∀ s : State,
    (s.pendingValid = false → s.guardTimer = 0#16 → exec .tickSd s = .next s) ∧
    (s.pendingValid = false → s.guardTimer ≠ 0#16 →
      exec .tickSd s = .next { s with guardTimer := s.guardTimer - 1#16 }) ∧
    (s.pendingValid = true → s.guardTimer = 0#16 → 1#16 < s.respTimer →
      exec .tickSd s = .next { s with respTimer := s.respTimer - 1#16 }) ∧
    (s.pendingValid = true → s.respTimer = 1#16 →
      exec .tickSd s = .next
        { s with
          pendingValid := false, respTimer := 0#16, guardTimer := s.cfg.tP3Min
          outputs := s.outputs ++ [.result (.err .responseTimeout)] })

/-! ### The Transport -/

/-- R311 to R314, R316: each call is one output with its result; a successful one sets the rate or the level, a failed
one leaves it unknown (log 10); the result of a write is the environment's bit too, whether the Transport is open or not
(R13, U2; log 11); closing is the model's reading (log 12). -/
def Obligations.TransportCallsAreOutputs : Prop :=
  ∀ (s : State) (bps : Rate) (low : Bool) (bytes : List Byte),
    exec .tIsOpen s = .next { s with outputs := s.outputs ++ [.call (.isOpen s.tOpen)] } ∧
    exec (.tSetBaudRate bps) s = .next
      { s with
        tBaud := if s.answer then bps else Config.freeBaud s.callNo
        answers := s.answers.tail, callNo := s.callNo + 1
        outputs := s.outputs ++ [.call (.setBaudRate bps s.answer)] } ∧
    exec (.tSetLineState low) s = .next
      { s with
        tLineLow := if s.answer then low else Config.freeLineLow s.callNo
        answers := s.answers.tail, callNo := s.callNo + 1
        outputs := s.outputs ++ [.call (.setLineState low s.answer)] } ∧
    exec (.tWrite bytes) s = .next
      { s with
        answers := s.answers.tail, callNo := s.callNo + 1
        outputs := s.outputs ++ [.call (.write bytes s.answer)] } ∧
    exec .tClose s = .next { s with tOpen := false, outputs := s.outputs ++ [.call .close] }

/-- R315: a delivery of the read channel becomes an inbound block of the present instant, after those already there,
and nothing else changes. -/
def Obligations.SubscribedReadDeliversABlock : Prop :=
  ∀ (s : State) (block : List Byte), exec (.tSubscribeRead block) s = .next
    { s with
      inputs := { (s.inputs.head?.getD {}) with rx := (s.inputs.head?.getD {}).rx ++ [block] } :: s.inputs.tail }

/-! ### The whole machine -/

/-- R38, R39: the state after reset meets the invariant, whatever the Transport's state and for every configuration
that loads no timer with 0. -/
def Obligations.ResetMeetsTheInvariant : Prop :=
  ∀ (c : Cfg) (isOpen : Bool) (baud : Rate) (low : Bool), c.wf →
    Inv { State.reset with cfg := c, tOpen := isOpen, tBaud := baud, tLineLow := low }

/-- R38: every step keeps the invariant, from every state that meets it: I1 to I10, the buffers (R28, R32, R50), and that
testerPresent is never pending (R201, R210, R345). -/
def Obligations.StepKeepsTheInvariant : Prop :=
  ∀ s t : State, Inv s → step s = .next t → Inv t

/-- R38, R345: I1 to I10 hold in every reachable state, and testerPresent is never pending; I5 is said with the model's
record of the write of `ecu_addr` (log 5), I9 as: `Dispatch`, the SD's only Transport call, is not enabled. -/
def Obligations.ReachableStatesMeetTheInvariants : Prop :=
  ∀ s : State, Reachable s → SpecInv s ∧ (s.pendingValid = true → s.pendingSid ≠ s.cfg.sidTesterPresent)

/-- R281, R319: no error stops the block: from every state that meets the invariant a step answers a next state. -/
def Obligations.NoErrorStopsTheBlock : Prop :=
  ∀ s : State, Inv s → ∃ t, step s = .next t

/-- R102: every command answers a next state whose new outputs hold exactly one `Ack`; the memory commands are those
with operands of the widths that `CFG.MEM_REQ_PAYLOAD` fixes (R8, D28). -/
def Obligations.EveryCommandIsAcknowledgedOnce : Prop :=
  ∀ (s : State) (i : Instr), isCommand i = true →
    (∀ address size, i = .readMemory address size →
      address.length = s.cfg.memReqPayload.addressBytes ∧ size.length = s.cfg.memReqPayload.sizeBytes) →
    (∀ address data, i = .writeMemory address data → address.length = s.cfg.memReqPayload.addressBytes) →
    ∃ t os, exec i s = .next t ∧ t.outputs = s.outputs ++ os ∧ (os.filter isAck).length = 1

/-- R10, R61, R8, D33: a step only appends to the output history, and the configuration is constant. -/
def Obligations.StepAppendsOutputsAndKeepsCfg : Prop :=
  ∀ s t : State, step s = .next t → s.outputs <+: t.outputs ∧ t.cfg = s.cfg

/-- R63, R61: while a request is pending no step writes a frame. -/
def Obligations.NoWriteWhileARequestIsPending : Prop :=
  ∀ s t : State, Inv s → s.pendingValid = true → step s = .next t →
    ∀ o ∈ newOutputs s t, isWrite o = false

/-- R200, R306, R101: no operation but those of the ISM writes `ism_state`, and none but those and the two setting calls
themselves changes the Transport's rate or level: not the SD, not a pure function, not an inbound block. -/
def Obligations.DispatcherNeverWritesIsmState : Prop :=
  ∀ (s t : State) (i : Instr), isIsmOperation i = false → exec i s = .next t →
    t.ismState = s.ismState ∧ (¬ isSettingCall i → t.tBaud = s.tBaud ∧ t.tLineLow = s.tLineLow)

/-- R11, R26, R161: a pulse of `n` ticks lasts exactly `n` ticks: after `k < n` of them the line has not moved, no call
was made and `n - k` are left; the `n`-th ends it, with the line high in `PulseHigh`, or in `Failed` if the call fails. -/
def Obligations.LowPulseLastsItsTicks : Prop :=
  ∀ s : State, Inv s → s.ismState = .pulseLow →
    (∀ k, k < s.initTimer.toNat →
      ∃ t, ticks k s = .next t ∧ t.ismState = .pulseLow ∧ t.initTimer.toNat = s.initTimer.toNat - k ∧
        t.outputs = s.outputs ∧ t.tLineLow = s.tLineLow) ∧
    ∃ t, ticks s.initTimer.toNat s = .next t ∧
      (s.answer = true → t.ismState = .pulseHigh ∧ t.initTimer = s.cfg.tPulseHigh ∧ t.tLineLow = false ∧
        t.outputs = s.outputs ++ [.call (.setLineState false true)]) ∧
      (s.answer = false → t.ismState = .failed ∧ t.failReason = .ioSetLineState ∧
        t.outputs = s.outputs ++ [.call (.setLineState false false), .notify (.failed .ioSetLineState)])

/-- R225, R241: a request with no response is resolved by the tick that ends its timer, not before; the queue is kept
and the guard loaded. -/
def Obligations.UnansweredRequestTimesOut : Prop :=
  ∀ s : State, Inv s → s.pendingValid = true →
    (∀ k, k < s.respTimer.toNat → ∃ t, ticks k s = .next t ∧ t.pendingValid = true ∧ t.outputs = s.outputs) ∧
    ∃ t, ticks s.respTimer.toNat s = .next t ∧ t.pendingValid = false ∧ t.queue = s.queue ∧
      t.guardTimer = s.cfg.tP3Min ∧ t.ismState = .ready ∧
      t.outputs = s.outputs ++ [.result (.err .responseTimeout)]

/-- R62(b), R65: after a resolution nothing is written before the guard has run out. With a request waiting, the guard's
ticks make no output, and then, not before, `Dispatch` is enabled. And whatever else happens between, a command, a block
or any other event: a step with the guard not at 0 writes nothing, and the guard stays, or loses
one by a `Tick`, or the block is reset. -/
def Obligations.GuardSeparatesRequests : Prop :=
  ∀ s : State, Inv s → s.ismState = .ready →
    (s.pendingValid = false → s.queue ≠ [] →
      (∀ k, k < s.guardTimer.toNat →
        ∃ t, ticks k s = .next t ∧ t.outputs = s.outputs ∧ t.dispatchEnabled = false) ∧
      ∃ t, ticks s.guardTimer.toNat s = .next t ∧ t.outputs = s.outputs ∧ t.queue = s.queue ∧
        t.dispatchEnabled = true) ∧
    (∀ t, s.guardTimer ≠ 0#16 → step s = .next t →
      (∀ o ∈ newOutputs s t, isWrite o = false) ∧
      (t.guardTimer = s.guardTimer ∨
        ((fetch s).1 = some .tick ∧ t.guardTimer = s.guardTimer - 1#16) ∨
        ((fetch s).1 = some .reset ∧ t.ismState = .idle)))

/-- R177: a fast run in which every call succeeds: its Transport calls in order, the line low for exactly `T_PULSE_LOW`
ticks and then high for exactly `T_PULSE_HIGH`, and the StartCommunication frame ready to be written after the last. -/
def Obligations.FastInitRun : Prop :=
  ∀ (s s₁ : State) (a : Byte) (more : List Bool),
    Inv s → s.linkState ≠ .synchronizing → s.pendingValid = false → s.queue = [] → s.tOpen = true →
    s.answers = true :: true :: true :: more → exec (.startInitFast a) s = .next s₁ →
    s₁.outputs = s.outputs ++
      [.call (.isOpen true), .ack .ok, .notify .synchronizing, .call (.setLineState true true)] ∧
    (∀ k, k < s.cfg.tPulseLow.toNat →
      ∃ t, ticks k s₁ = .next t ∧ t.ismState = .pulseLow ∧ t.tLineLow = true ∧ t.outputs = s₁.outputs) ∧
    (∀ k, k < s.cfg.tPulseHigh.toNat →
      ∃ t, ticks (s.cfg.tPulseLow.toNat + k) s₁ = .next t ∧ t.ismState = .pulseHigh ∧ t.tLineLow = false ∧
        t.outputs = s₁.outputs ++ [.call (.setLineState false true)]) ∧
    ∃ t, ticks (s.cfg.tPulseLow.toNat + s.cfg.tPulseHigh.toNat) s₁ = .next t ∧
      t.ismState = .sendingStartComm ∧ t.tLineLow = false ∧ t.tBaud = s.cfg.baudSteady ∧ t.answers = more ∧
      t.txBytes = buildFrame ⟨s.cfg.formatByte, a, s.cfg.testerAddr⟩ s.cfg.sidStartComm [s.cfg.sessionType] ∧
      t.outputs = s₁.outputs ++
        [.call (.setLineState false true), .call (.setBaudRate s.cfg.baudSteady true)]

/-- R185, R90, R154: a 5-baud run in which every call succeeds enters `Ready` after exactly `10 × T_BIT + T_SETTLE`
ticks and not before; its Transport calls are the open check, the ten levels of the address character (start bit, the
`N_DATA_BITS` data bits, 8 in R8 (log 2), and high after them: R90's stop bit, and with fewer data bits also the periods
before it, log 28), and the rate. -/
def Obligations.FiveBaudInitRun : Prop :=
  ∀ (s s₁ : State) (a : Byte) (more : List Bool),
    Inv s → s.linkState ≠ .synchronizing → s.pendingValid = false → s.queue = [] → s.tOpen = true →
    s.answers = List.replicate 11 true ++ more → exec (.startInit5Baud a) s = .next s₁ →
    (∀ k, k < 10 * s.cfg.tBit.toNat + s.cfg.tSettle.toNat →
      ∃ t, ticks k s₁ = .next t ∧ t.linkState = .synchronizing) ∧
    ∃ t, ticks (10 * s.cfg.tBit.toNat + s.cfg.tSettle.toNat) s₁ = .next t ∧
      t.ismState = .ready ∧ t.tLineLow = false ∧ t.tBaud = s.cfg.baudSteady ∧ t.answers = more ∧
      t.outputs = s.outputs ++
        [.call (.isOpen true), .ack .ok, .notify .synchronizing, .status .startingFiveBaud,
          .call (.setLineState true true)] ++
        (List.range s.cfg.nDataBits.toNat).map (fun i => .call (.setLineState (!a.getLsbD i) true)) ++
        List.replicate (9 - s.cfg.nDataBits.toNat) (.call (.setLineState false true)) ++
        [.call (.setBaudRate s.cfg.baudSteady true), .notify .ready, .status .initSuccessful]
end

