-- ==== Sys2Proof/Laws/State.lean ====
section
/-! SUPPORT. One lemma per field per update, so that no proof unfolds a record update. -/

namespace Sys2Proof.Machine

/-! ### `emit` -/

@[simp] theorem emit_cfg (s : State) (o : Output) : (s.emit o).cfg = s.cfg := rfl
@[simp] theorem emit_ismState (s : State) (o : Output) : (s.emit o).ismState = s.ismState := rfl
@[simp] theorem emit_initMode (s : State) (o : Output) : (s.emit o).initMode = s.initMode := rfl
@[simp] theorem emit_ecuAddr (s : State) (o : Output) : (s.emit o).ecuAddr = s.ecuAddr := rfl
@[simp] theorem emit_bitIdx (s : State) (o : Output) : (s.emit o).bitIdx = s.bitIdx := rfl
@[simp] theorem emit_initTimer (s : State) (o : Output) : (s.emit o).initTimer = s.initTimer := rfl
@[simp] theorem emit_failReason (s : State) (o : Output) : (s.emit o).failReason = s.failReason := rfl
@[simp] theorem emit_txFrame (s : State) (o : Output) : (s.emit o).txFrame = s.txFrame := rfl
@[simp] theorem emit_txLen (s : State) (o : Output) : (s.emit o).txLen = s.txLen := rfl
@[simp] theorem emit_pendingValid (s : State) (o : Output) : (s.emit o).pendingValid = s.pendingValid := rfl
@[simp] theorem emit_pendingSid (s : State) (o : Output) : (s.emit o).pendingSid = s.pendingSid := rfl
@[simp] theorem emit_respTimer (s : State) (o : Output) : (s.emit o).respTimer = s.respTimer := rfl
@[simp] theorem emit_guardTimer (s : State) (o : Output) : (s.emit o).guardTimer = s.guardTimer := rfl
@[simp] theorem emit_queue (s : State) (o : Output) : (s.emit o).queue = s.queue := rfl
@[simp] theorem emit_tOpen (s : State) (o : Output) : (s.emit o).tOpen = s.tOpen := rfl
@[simp] theorem emit_tBaud (s : State) (o : Output) : (s.emit o).tBaud = s.tBaud := rfl
@[simp] theorem emit_tLineLow (s : State) (o : Output) : (s.emit o).tLineLow = s.tLineLow := rfl
@[simp] theorem emit_ecuAddrWritten (s : State) (o : Output) : (s.emit o).ecuAddrWritten = s.ecuAddrWritten := rfl
@[simp] theorem emit_unitOut (s : State) (o : Output) : (s.emit o).unitOut = s.unitOut := rfl
@[simp] theorem emit_outputs (s : State) (o : Output) : (s.emit o).outputs = s.outputs ++ [o] := rfl
@[simp] theorem emit_presented (s : State) (o : Output) : (s.emit o).presented = s.presented := rfl
@[simp] theorem emit_inputs (s : State) (o : Output) : (s.emit o).inputs = s.inputs := rfl
@[simp] theorem emit_answers (s : State) (o : Output) : (s.emit o).answers = s.answers := rfl
@[simp] theorem emit_callNo (s : State) (o : Output) : (s.emit o).callNo = s.callNo := rfl

/-! ### taking an answer -/

@[simp] theorem takeAnswer_cfg (s : State) : (s.takeAnswer).cfg = s.cfg := rfl
@[simp] theorem takeAnswer_ismState (s : State) : (s.takeAnswer).ismState = s.ismState := rfl
@[simp] theorem takeAnswer_initMode (s : State) : (s.takeAnswer).initMode = s.initMode := rfl
@[simp] theorem takeAnswer_ecuAddr (s : State) : (s.takeAnswer).ecuAddr = s.ecuAddr := rfl
@[simp] theorem takeAnswer_bitIdx (s : State) : (s.takeAnswer).bitIdx = s.bitIdx := rfl
@[simp] theorem takeAnswer_initTimer (s : State) : (s.takeAnswer).initTimer = s.initTimer := rfl
@[simp] theorem takeAnswer_failReason (s : State) : (s.takeAnswer).failReason = s.failReason := rfl
@[simp] theorem takeAnswer_txFrame (s : State) : (s.takeAnswer).txFrame = s.txFrame := rfl
@[simp] theorem takeAnswer_txLen (s : State) : (s.takeAnswer).txLen = s.txLen := rfl
@[simp] theorem takeAnswer_pendingValid (s : State) : (s.takeAnswer).pendingValid = s.pendingValid := rfl
@[simp] theorem takeAnswer_pendingSid (s : State) : (s.takeAnswer).pendingSid = s.pendingSid := rfl
@[simp] theorem takeAnswer_respTimer (s : State) : (s.takeAnswer).respTimer = s.respTimer := rfl
@[simp] theorem takeAnswer_guardTimer (s : State) : (s.takeAnswer).guardTimer = s.guardTimer := rfl
@[simp] theorem takeAnswer_queue (s : State) : (s.takeAnswer).queue = s.queue := rfl
@[simp] theorem takeAnswer_tOpen (s : State) : (s.takeAnswer).tOpen = s.tOpen := rfl
@[simp] theorem takeAnswer_tBaud (s : State) : (s.takeAnswer).tBaud = s.tBaud := rfl
@[simp] theorem takeAnswer_tLineLow (s : State) : (s.takeAnswer).tLineLow = s.tLineLow := rfl
@[simp] theorem takeAnswer_ecuAddrWritten (s : State) : (s.takeAnswer).ecuAddrWritten = s.ecuAddrWritten := rfl
@[simp] theorem takeAnswer_unitOut (s : State) : (s.takeAnswer).unitOut = s.unitOut := rfl
@[simp] theorem takeAnswer_outputs (s : State) : (s.takeAnswer).outputs = s.outputs := rfl
@[simp] theorem takeAnswer_presented (s : State) : (s.takeAnswer).presented = s.presented := rfl
@[simp] theorem takeAnswer_inputs (s : State) : (s.takeAnswer).inputs = s.inputs := rfl
@[simp] theorem takeAnswer_answers (s : State) : (s.takeAnswer).answers = s.answers.tail := rfl
@[simp] theorem takeAnswer_callNo (s : State) : (s.takeAnswer).callNo = s.callNo + 1 := rfl

/-! ### presenting an event -/

@[simp] theorem present_cfg (e : Event) (s : State) : (s.present e).cfg = s.cfg := rfl
@[simp] theorem present_ismState (e : Event) (s : State) : (s.present e).ismState = s.ismState := rfl
@[simp] theorem present_initMode (e : Event) (s : State) : (s.present e).initMode = s.initMode := rfl
@[simp] theorem present_ecuAddr (e : Event) (s : State) : (s.present e).ecuAddr = s.ecuAddr := rfl
@[simp] theorem present_bitIdx (e : Event) (s : State) : (s.present e).bitIdx = s.bitIdx := rfl
@[simp] theorem present_initTimer (e : Event) (s : State) : (s.present e).initTimer = s.initTimer := rfl
@[simp] theorem present_failReason (e : Event) (s : State) : (s.present e).failReason = s.failReason := rfl
@[simp] theorem present_txFrame (e : Event) (s : State) : (s.present e).txFrame = s.txFrame := rfl
@[simp] theorem present_txLen (e : Event) (s : State) : (s.present e).txLen = s.txLen := rfl
@[simp] theorem present_pendingValid (e : Event) (s : State) : (s.present e).pendingValid = s.pendingValid := rfl
@[simp] theorem present_pendingSid (e : Event) (s : State) : (s.present e).pendingSid = s.pendingSid := rfl
@[simp] theorem present_respTimer (e : Event) (s : State) : (s.present e).respTimer = s.respTimer := rfl
@[simp] theorem present_guardTimer (e : Event) (s : State) : (s.present e).guardTimer = s.guardTimer := rfl
@[simp] theorem present_queue (e : Event) (s : State) : (s.present e).queue = s.queue := rfl
@[simp] theorem present_tOpen (e : Event) (s : State) : (s.present e).tOpen = s.tOpen := rfl
@[simp] theorem present_tBaud (e : Event) (s : State) : (s.present e).tBaud = s.tBaud := rfl
@[simp] theorem present_tLineLow (e : Event) (s : State) : (s.present e).tLineLow = s.tLineLow := rfl
@[simp] theorem present_ecuAddrWritten (e : Event) (s : State) : (s.present e).ecuAddrWritten = s.ecuAddrWritten := rfl
@[simp] theorem present_unitOut (e : Event) (s : State) : (s.present e).unitOut = s.unitOut := rfl
@[simp] theorem present_outputs (e : Event) (s : State) : (s.present e).outputs = s.outputs := rfl
@[simp] theorem present_presented (e : Event) (s : State) : (s.present e).presented = some e := rfl
@[simp] theorem present_inputs (e : Event) (s : State) : (s.present e).inputs = s.inputs := rfl
@[simp] theorem present_answers (e : Event) (s : State) : (s.present e).answers = s.answers := rfl
@[simp] theorem present_callNo (e : Event) (s : State) : (s.present e).callNo = s.callNo := rfl

/-! ### `T.isOpen` -/

@[simp] theorem callIsOpen_cfg (s : State) : (callIsOpen s).cfg = s.cfg := rfl
@[simp] theorem callIsOpen_ismState (s : State) : (callIsOpen s).ismState = s.ismState := rfl
@[simp] theorem callIsOpen_initMode (s : State) : (callIsOpen s).initMode = s.initMode := rfl
@[simp] theorem callIsOpen_ecuAddr (s : State) : (callIsOpen s).ecuAddr = s.ecuAddr := rfl
@[simp] theorem callIsOpen_bitIdx (s : State) : (callIsOpen s).bitIdx = s.bitIdx := rfl
@[simp] theorem callIsOpen_initTimer (s : State) : (callIsOpen s).initTimer = s.initTimer := rfl
@[simp] theorem callIsOpen_failReason (s : State) : (callIsOpen s).failReason = s.failReason := rfl
@[simp] theorem callIsOpen_txFrame (s : State) : (callIsOpen s).txFrame = s.txFrame := rfl
@[simp] theorem callIsOpen_txLen (s : State) : (callIsOpen s).txLen = s.txLen := rfl
@[simp] theorem callIsOpen_pendingValid (s : State) : (callIsOpen s).pendingValid = s.pendingValid := rfl
@[simp] theorem callIsOpen_pendingSid (s : State) : (callIsOpen s).pendingSid = s.pendingSid := rfl
@[simp] theorem callIsOpen_respTimer (s : State) : (callIsOpen s).respTimer = s.respTimer := rfl
@[simp] theorem callIsOpen_guardTimer (s : State) : (callIsOpen s).guardTimer = s.guardTimer := rfl
@[simp] theorem callIsOpen_queue (s : State) : (callIsOpen s).queue = s.queue := rfl
@[simp] theorem callIsOpen_tOpen (s : State) : (callIsOpen s).tOpen = s.tOpen := rfl
@[simp] theorem callIsOpen_tBaud (s : State) : (callIsOpen s).tBaud = s.tBaud := rfl
@[simp] theorem callIsOpen_tLineLow (s : State) : (callIsOpen s).tLineLow = s.tLineLow := rfl
@[simp] theorem callIsOpen_ecuAddrWritten (s : State) : (callIsOpen s).ecuAddrWritten = s.ecuAddrWritten := rfl
@[simp] theorem callIsOpen_unitOut (s : State) : (callIsOpen s).unitOut = s.unitOut := rfl
@[simp] theorem callIsOpen_outputs (s : State) : (callIsOpen s).outputs = s.outputs ++ [.call (.isOpen s.tOpen)] := rfl
@[simp] theorem callIsOpen_presented (s : State) : (callIsOpen s).presented = s.presented := rfl
@[simp] theorem callIsOpen_inputs (s : State) : (callIsOpen s).inputs = s.inputs := rfl
@[simp] theorem callIsOpen_answers (s : State) : (callIsOpen s).answers = s.answers := rfl
@[simp] theorem callIsOpen_callNo (s : State) : (callIsOpen s).callNo = s.callNo := rfl

/-! ### `T.setBaudRate` -/

@[simp] theorem callSetBaudRate_cfg (bps : Rate) (s : State) : (callSetBaudRate bps s).cfg = s.cfg := rfl
@[simp] theorem callSetBaudRate_ismState (bps : Rate) (s : State) : (callSetBaudRate bps s).ismState = s.ismState := rfl
@[simp] theorem callSetBaudRate_initMode (bps : Rate) (s : State) : (callSetBaudRate bps s).initMode = s.initMode := rfl
@[simp] theorem callSetBaudRate_ecuAddr (bps : Rate) (s : State) : (callSetBaudRate bps s).ecuAddr = s.ecuAddr := rfl
@[simp] theorem callSetBaudRate_bitIdx (bps : Rate) (s : State) : (callSetBaudRate bps s).bitIdx = s.bitIdx := rfl
@[simp] theorem callSetBaudRate_initTimer (bps : Rate) (s : State) : (callSetBaudRate bps s).initTimer = s.initTimer := rfl
@[simp] theorem callSetBaudRate_failReason (bps : Rate) (s : State) : (callSetBaudRate bps s).failReason = s.failReason := rfl
@[simp] theorem callSetBaudRate_txFrame (bps : Rate) (s : State) : (callSetBaudRate bps s).txFrame = s.txFrame := rfl
@[simp] theorem callSetBaudRate_txLen (bps : Rate) (s : State) : (callSetBaudRate bps s).txLen = s.txLen := rfl
@[simp] theorem callSetBaudRate_pendingValid (bps : Rate) (s : State) : (callSetBaudRate bps s).pendingValid = s.pendingValid := rfl
@[simp] theorem callSetBaudRate_pendingSid (bps : Rate) (s : State) : (callSetBaudRate bps s).pendingSid = s.pendingSid := rfl
@[simp] theorem callSetBaudRate_respTimer (bps : Rate) (s : State) : (callSetBaudRate bps s).respTimer = s.respTimer := rfl
@[simp] theorem callSetBaudRate_guardTimer (bps : Rate) (s : State) : (callSetBaudRate bps s).guardTimer = s.guardTimer := rfl
@[simp] theorem callSetBaudRate_queue (bps : Rate) (s : State) : (callSetBaudRate bps s).queue = s.queue := rfl
@[simp] theorem callSetBaudRate_tOpen (bps : Rate) (s : State) : (callSetBaudRate bps s).tOpen = s.tOpen := rfl
@[simp] theorem callSetBaudRate_tBaud (bps : Rate) (s : State) : (callSetBaudRate bps s).tBaud = if s.answer then bps else Config.freeBaud s.callNo := rfl
@[simp] theorem callSetBaudRate_tLineLow (bps : Rate) (s : State) : (callSetBaudRate bps s).tLineLow = s.tLineLow := rfl
@[simp] theorem callSetBaudRate_ecuAddrWritten (bps : Rate) (s : State) : (callSetBaudRate bps s).ecuAddrWritten = s.ecuAddrWritten := rfl
@[simp] theorem callSetBaudRate_unitOut (bps : Rate) (s : State) : (callSetBaudRate bps s).unitOut = s.unitOut := rfl
@[simp] theorem callSetBaudRate_outputs (bps : Rate) (s : State) : (callSetBaudRate bps s).outputs = s.outputs ++ [.call (.setBaudRate bps s.answer)] := rfl
@[simp] theorem callSetBaudRate_presented (bps : Rate) (s : State) : (callSetBaudRate bps s).presented = s.presented := rfl
@[simp] theorem callSetBaudRate_inputs (bps : Rate) (s : State) : (callSetBaudRate bps s).inputs = s.inputs := rfl
@[simp] theorem callSetBaudRate_answers (bps : Rate) (s : State) : (callSetBaudRate bps s).answers = s.answers.tail := rfl
@[simp] theorem callSetBaudRate_callNo (bps : Rate) (s : State) : (callSetBaudRate bps s).callNo = s.callNo + 1 := rfl

/-! ### `T.setLineState` -/

@[simp] theorem callSetLineState_cfg (low : Bool) (s : State) : (callSetLineState low s).cfg = s.cfg := rfl
@[simp] theorem callSetLineState_ismState (low : Bool) (s : State) : (callSetLineState low s).ismState = s.ismState := rfl
@[simp] theorem callSetLineState_initMode (low : Bool) (s : State) : (callSetLineState low s).initMode = s.initMode := rfl
@[simp] theorem callSetLineState_ecuAddr (low : Bool) (s : State) : (callSetLineState low s).ecuAddr = s.ecuAddr := rfl
@[simp] theorem callSetLineState_bitIdx (low : Bool) (s : State) : (callSetLineState low s).bitIdx = s.bitIdx := rfl
@[simp] theorem callSetLineState_initTimer (low : Bool) (s : State) : (callSetLineState low s).initTimer = s.initTimer := rfl
@[simp] theorem callSetLineState_failReason (low : Bool) (s : State) : (callSetLineState low s).failReason = s.failReason := rfl
@[simp] theorem callSetLineState_txFrame (low : Bool) (s : State) : (callSetLineState low s).txFrame = s.txFrame := rfl
@[simp] theorem callSetLineState_txLen (low : Bool) (s : State) : (callSetLineState low s).txLen = s.txLen := rfl
@[simp] theorem callSetLineState_pendingValid (low : Bool) (s : State) : (callSetLineState low s).pendingValid = s.pendingValid := rfl
@[simp] theorem callSetLineState_pendingSid (low : Bool) (s : State) : (callSetLineState low s).pendingSid = s.pendingSid := rfl
@[simp] theorem callSetLineState_respTimer (low : Bool) (s : State) : (callSetLineState low s).respTimer = s.respTimer := rfl
@[simp] theorem callSetLineState_guardTimer (low : Bool) (s : State) : (callSetLineState low s).guardTimer = s.guardTimer := rfl
@[simp] theorem callSetLineState_queue (low : Bool) (s : State) : (callSetLineState low s).queue = s.queue := rfl
@[simp] theorem callSetLineState_tOpen (low : Bool) (s : State) : (callSetLineState low s).tOpen = s.tOpen := rfl
@[simp] theorem callSetLineState_tBaud (low : Bool) (s : State) : (callSetLineState low s).tBaud = s.tBaud := rfl
@[simp] theorem callSetLineState_tLineLow (low : Bool) (s : State) : (callSetLineState low s).tLineLow = if s.answer then low else Config.freeLineLow s.callNo := rfl
@[simp] theorem callSetLineState_ecuAddrWritten (low : Bool) (s : State) : (callSetLineState low s).ecuAddrWritten = s.ecuAddrWritten := rfl
@[simp] theorem callSetLineState_unitOut (low : Bool) (s : State) : (callSetLineState low s).unitOut = s.unitOut := rfl
@[simp] theorem callSetLineState_outputs (low : Bool) (s : State) : (callSetLineState low s).outputs = s.outputs ++ [.call (.setLineState low s.answer)] := rfl
@[simp] theorem callSetLineState_presented (low : Bool) (s : State) : (callSetLineState low s).presented = s.presented := rfl
@[simp] theorem callSetLineState_inputs (low : Bool) (s : State) : (callSetLineState low s).inputs = s.inputs := rfl
@[simp] theorem callSetLineState_answers (low : Bool) (s : State) : (callSetLineState low s).answers = s.answers.tail := rfl
@[simp] theorem callSetLineState_callNo (low : Bool) (s : State) : (callSetLineState low s).callNo = s.callNo + 1 := rfl

/-! ### `T.write` -/

@[simp] theorem callWrite_cfg (bytes : List Byte) (s : State) : (callWrite bytes s).cfg = s.cfg := rfl
@[simp] theorem callWrite_ismState (bytes : List Byte) (s : State) : (callWrite bytes s).ismState = s.ismState := rfl
@[simp] theorem callWrite_initMode (bytes : List Byte) (s : State) : (callWrite bytes s).initMode = s.initMode := rfl
@[simp] theorem callWrite_ecuAddr (bytes : List Byte) (s : State) : (callWrite bytes s).ecuAddr = s.ecuAddr := rfl
@[simp] theorem callWrite_bitIdx (bytes : List Byte) (s : State) : (callWrite bytes s).bitIdx = s.bitIdx := rfl
@[simp] theorem callWrite_initTimer (bytes : List Byte) (s : State) : (callWrite bytes s).initTimer = s.initTimer := rfl
@[simp] theorem callWrite_failReason (bytes : List Byte) (s : State) : (callWrite bytes s).failReason = s.failReason := rfl
@[simp] theorem callWrite_txFrame (bytes : List Byte) (s : State) : (callWrite bytes s).txFrame = s.txFrame := rfl
@[simp] theorem callWrite_txLen (bytes : List Byte) (s : State) : (callWrite bytes s).txLen = s.txLen := rfl
@[simp] theorem callWrite_pendingValid (bytes : List Byte) (s : State) : (callWrite bytes s).pendingValid = s.pendingValid := rfl
@[simp] theorem callWrite_pendingSid (bytes : List Byte) (s : State) : (callWrite bytes s).pendingSid = s.pendingSid := rfl
@[simp] theorem callWrite_respTimer (bytes : List Byte) (s : State) : (callWrite bytes s).respTimer = s.respTimer := rfl
@[simp] theorem callWrite_guardTimer (bytes : List Byte) (s : State) : (callWrite bytes s).guardTimer = s.guardTimer := rfl
@[simp] theorem callWrite_queue (bytes : List Byte) (s : State) : (callWrite bytes s).queue = s.queue := rfl
@[simp] theorem callWrite_tOpen (bytes : List Byte) (s : State) : (callWrite bytes s).tOpen = s.tOpen := rfl
@[simp] theorem callWrite_tBaud (bytes : List Byte) (s : State) : (callWrite bytes s).tBaud = s.tBaud := rfl
@[simp] theorem callWrite_tLineLow (bytes : List Byte) (s : State) : (callWrite bytes s).tLineLow = s.tLineLow := rfl
@[simp] theorem callWrite_ecuAddrWritten (bytes : List Byte) (s : State) : (callWrite bytes s).ecuAddrWritten = s.ecuAddrWritten := rfl
@[simp] theorem callWrite_unitOut (bytes : List Byte) (s : State) : (callWrite bytes s).unitOut = s.unitOut := rfl
@[simp] theorem callWrite_outputs (bytes : List Byte) (s : State) : (callWrite bytes s).outputs = s.outputs ++ [.call (.write bytes s.answer)] := rfl
@[simp] theorem callWrite_presented (bytes : List Byte) (s : State) : (callWrite bytes s).presented = s.presented := rfl
@[simp] theorem callWrite_inputs (bytes : List Byte) (s : State) : (callWrite bytes s).inputs = s.inputs := rfl
@[simp] theorem callWrite_answers (bytes : List Byte) (s : State) : (callWrite bytes s).answers = s.answers.tail := rfl
@[simp] theorem callWrite_callNo (bytes : List Byte) (s : State) : (callWrite bytes s).callNo = s.callNo + 1 := rfl

/-! ### the failure entry (R159) -/

@[simp] theorem failWith_cfg (r : FailReason) (s : State) : (failWith r s).cfg = s.cfg := rfl
@[simp] theorem failWith_ismState (r : FailReason) (s : State) : (failWith r s).ismState = .failed := rfl
@[simp] theorem failWith_initMode (r : FailReason) (s : State) : (failWith r s).initMode = s.initMode := rfl
@[simp] theorem failWith_ecuAddr (r : FailReason) (s : State) : (failWith r s).ecuAddr = s.ecuAddr := rfl
@[simp] theorem failWith_bitIdx (r : FailReason) (s : State) : (failWith r s).bitIdx = s.bitIdx := rfl
@[simp] theorem failWith_initTimer (r : FailReason) (s : State) : (failWith r s).initTimer = 0#16 := rfl
@[simp] theorem failWith_failReason (r : FailReason) (s : State) : (failWith r s).failReason = r := rfl
@[simp] theorem failWith_txFrame (r : FailReason) (s : State) : (failWith r s).txFrame = s.txFrame := rfl
@[simp] theorem failWith_txLen (r : FailReason) (s : State) : (failWith r s).txLen = 0#9 := rfl
@[simp] theorem failWith_pendingValid (r : FailReason) (s : State) : (failWith r s).pendingValid = s.pendingValid := rfl
@[simp] theorem failWith_pendingSid (r : FailReason) (s : State) : (failWith r s).pendingSid = s.pendingSid := rfl
@[simp] theorem failWith_respTimer (r : FailReason) (s : State) : (failWith r s).respTimer = s.respTimer := rfl
@[simp] theorem failWith_guardTimer (r : FailReason) (s : State) : (failWith r s).guardTimer = s.guardTimer := rfl
@[simp] theorem failWith_queue (r : FailReason) (s : State) : (failWith r s).queue = s.queue := rfl
@[simp] theorem failWith_tOpen (r : FailReason) (s : State) : (failWith r s).tOpen = s.tOpen := rfl
@[simp] theorem failWith_tBaud (r : FailReason) (s : State) : (failWith r s).tBaud = s.tBaud := rfl
@[simp] theorem failWith_tLineLow (r : FailReason) (s : State) : (failWith r s).tLineLow = s.tLineLow := rfl
@[simp] theorem failWith_ecuAddrWritten (r : FailReason) (s : State) : (failWith r s).ecuAddrWritten = s.ecuAddrWritten := rfl
@[simp] theorem failWith_unitOut (r : FailReason) (s : State) : (failWith r s).unitOut = s.unitOut := rfl
@[simp] theorem failWith_outputs (r : FailReason) (s : State) : (failWith r s).outputs = s.outputs ++ [.notify (.failed r)] := rfl
@[simp] theorem failWith_presented (r : FailReason) (s : State) : (failWith r s).presented = s.presented := rfl
@[simp] theorem failWith_inputs (r : FailReason) (s : State) : (failWith r s).inputs = s.inputs := rfl
@[simp] theorem failWith_answers (r : FailReason) (s : State) : (failWith r s).answers = s.answers := rfl
@[simp] theorem failWith_callNo (r : FailReason) (s : State) : (failWith r s).callNo = s.callNo := rfl

/-! ### entry to `Ready` -/

@[simp] theorem enterReady_cfg (s : State) : (enterReady s).cfg = s.cfg := rfl
@[simp] theorem enterReady_ismState (s : State) : (enterReady s).ismState = .ready := rfl
@[simp] theorem enterReady_initMode (s : State) : (enterReady s).initMode = s.initMode := rfl
@[simp] theorem enterReady_ecuAddr (s : State) : (enterReady s).ecuAddr = s.ecuAddr := rfl
@[simp] theorem enterReady_bitIdx (s : State) : (enterReady s).bitIdx = s.bitIdx := rfl
@[simp] theorem enterReady_initTimer (s : State) : (enterReady s).initTimer = s.initTimer := rfl
@[simp] theorem enterReady_failReason (s : State) : (enterReady s).failReason = s.failReason := rfl
@[simp] theorem enterReady_txFrame (s : State) : (enterReady s).txFrame = s.txFrame := rfl
@[simp] theorem enterReady_txLen (s : State) : (enterReady s).txLen = s.txLen := rfl
@[simp] theorem enterReady_pendingValid (s : State) : (enterReady s).pendingValid = s.pendingValid := rfl
@[simp] theorem enterReady_pendingSid (s : State) : (enterReady s).pendingSid = s.pendingSid := rfl
@[simp] theorem enterReady_respTimer (s : State) : (enterReady s).respTimer = s.respTimer := rfl
@[simp] theorem enterReady_guardTimer (s : State) : (enterReady s).guardTimer = s.guardTimer := rfl
@[simp] theorem enterReady_queue (s : State) : (enterReady s).queue = s.queue := rfl
@[simp] theorem enterReady_tOpen (s : State) : (enterReady s).tOpen = s.tOpen := rfl
@[simp] theorem enterReady_tBaud (s : State) : (enterReady s).tBaud = s.tBaud := rfl
@[simp] theorem enterReady_tLineLow (s : State) : (enterReady s).tLineLow = s.tLineLow := rfl
@[simp] theorem enterReady_ecuAddrWritten (s : State) : (enterReady s).ecuAddrWritten = s.ecuAddrWritten := rfl
@[simp] theorem enterReady_unitOut (s : State) : (enterReady s).unitOut = s.unitOut := rfl
@[simp] theorem enterReady_outputs (s : State) : (enterReady s).outputs = s.outputs ++ [.notify .ready] ++ [.status .initSuccessful] := rfl
@[simp] theorem enterReady_presented (s : State) : (enterReady s).presented = s.presented := rfl
@[simp] theorem enterReady_inputs (s : State) : (enterReady s).inputs = s.inputs := rfl
@[simp] theorem enterReady_answers (s : State) : (enterReady s).answers = s.answers := rfl
@[simp] theorem enterReady_callNo (s : State) : (enterReady s).callNo = s.callNo := rfl

/-! ### the resolution (R227) -/

@[simp] theorem resolveWith_cfg (r : RequestResult) (s : State) : (resolveWith r s).cfg = s.cfg := rfl
@[simp] theorem resolveWith_ismState (r : RequestResult) (s : State) : (resolveWith r s).ismState = s.ismState := rfl
@[simp] theorem resolveWith_initMode (r : RequestResult) (s : State) : (resolveWith r s).initMode = s.initMode := rfl
@[simp] theorem resolveWith_ecuAddr (r : RequestResult) (s : State) : (resolveWith r s).ecuAddr = s.ecuAddr := rfl
@[simp] theorem resolveWith_bitIdx (r : RequestResult) (s : State) : (resolveWith r s).bitIdx = s.bitIdx := rfl
@[simp] theorem resolveWith_initTimer (r : RequestResult) (s : State) : (resolveWith r s).initTimer = s.initTimer := rfl
@[simp] theorem resolveWith_failReason (r : RequestResult) (s : State) : (resolveWith r s).failReason = s.failReason := rfl
@[simp] theorem resolveWith_txFrame (r : RequestResult) (s : State) : (resolveWith r s).txFrame = s.txFrame := rfl
@[simp] theorem resolveWith_txLen (r : RequestResult) (s : State) : (resolveWith r s).txLen = s.txLen := rfl
@[simp] theorem resolveWith_pendingValid (r : RequestResult) (s : State) : (resolveWith r s).pendingValid = false := rfl
@[simp] theorem resolveWith_pendingSid (r : RequestResult) (s : State) : (resolveWith r s).pendingSid = s.pendingSid := rfl
@[simp] theorem resolveWith_respTimer (r : RequestResult) (s : State) : (resolveWith r s).respTimer = 0#16 := rfl
@[simp] theorem resolveWith_guardTimer (r : RequestResult) (s : State) : (resolveWith r s).guardTimer = s.cfg.tP3Min := rfl
@[simp] theorem resolveWith_queue (r : RequestResult) (s : State) : (resolveWith r s).queue = s.queue := rfl
@[simp] theorem resolveWith_tOpen (r : RequestResult) (s : State) : (resolveWith r s).tOpen = s.tOpen := rfl
@[simp] theorem resolveWith_tBaud (r : RequestResult) (s : State) : (resolveWith r s).tBaud = s.tBaud := rfl
@[simp] theorem resolveWith_tLineLow (r : RequestResult) (s : State) : (resolveWith r s).tLineLow = s.tLineLow := rfl
@[simp] theorem resolveWith_ecuAddrWritten (r : RequestResult) (s : State) : (resolveWith r s).ecuAddrWritten = s.ecuAddrWritten := rfl
@[simp] theorem resolveWith_unitOut (r : RequestResult) (s : State) : (resolveWith r s).unitOut = s.unitOut := rfl
@[simp] theorem resolveWith_outputs (r : RequestResult) (s : State) : (resolveWith r s).outputs = s.outputs ++ [.result r] := rfl
@[simp] theorem resolveWith_presented (r : RequestResult) (s : State) : (resolveWith r s).presented = s.presented := rfl
@[simp] theorem resolveWith_inputs (r : RequestResult) (s : State) : (resolveWith r s).inputs = s.inputs := rfl
@[simp] theorem resolveWith_answers (r : RequestResult) (s : State) : (resolveWith r s).answers = s.answers := rfl
@[simp] theorem resolveWith_callNo (r : RequestResult) (s : State) : (resolveWith r s).callNo = s.callNo := rfl

/-! ### loading `tx_frame` -/

@[simp] theorem loadTx_cfg (f : List Byte) (s : State) : (loadTx f s).cfg = s.cfg := rfl
@[simp] theorem loadTx_ismState (f : List Byte) (s : State) : (loadTx f s).ismState = s.ismState := rfl
@[simp] theorem loadTx_initMode (f : List Byte) (s : State) : (loadTx f s).initMode = s.initMode := rfl
@[simp] theorem loadTx_ecuAddr (f : List Byte) (s : State) : (loadTx f s).ecuAddr = s.ecuAddr := rfl
@[simp] theorem loadTx_bitIdx (f : List Byte) (s : State) : (loadTx f s).bitIdx = s.bitIdx := rfl
@[simp] theorem loadTx_initTimer (f : List Byte) (s : State) : (loadTx f s).initTimer = s.initTimer := rfl
@[simp] theorem loadTx_failReason (f : List Byte) (s : State) : (loadTx f s).failReason = s.failReason := rfl
@[simp] theorem loadTx_txFrame (f : List Byte) (s : State) : (loadTx f s).txFrame = s.txFrame.writeBytes 0 f := rfl
@[simp] theorem loadTx_txLen (f : List Byte) (s : State) : (loadTx f s).txLen = BitVec.ofNat 9 f.length := rfl
@[simp] theorem loadTx_pendingValid (f : List Byte) (s : State) : (loadTx f s).pendingValid = s.pendingValid := rfl
@[simp] theorem loadTx_pendingSid (f : List Byte) (s : State) : (loadTx f s).pendingSid = s.pendingSid := rfl
@[simp] theorem loadTx_respTimer (f : List Byte) (s : State) : (loadTx f s).respTimer = s.respTimer := rfl
@[simp] theorem loadTx_guardTimer (f : List Byte) (s : State) : (loadTx f s).guardTimer = s.guardTimer := rfl
@[simp] theorem loadTx_queue (f : List Byte) (s : State) : (loadTx f s).queue = s.queue := rfl
@[simp] theorem loadTx_tOpen (f : List Byte) (s : State) : (loadTx f s).tOpen = s.tOpen := rfl
@[simp] theorem loadTx_tBaud (f : List Byte) (s : State) : (loadTx f s).tBaud = s.tBaud := rfl
@[simp] theorem loadTx_tLineLow (f : List Byte) (s : State) : (loadTx f s).tLineLow = s.tLineLow := rfl
@[simp] theorem loadTx_ecuAddrWritten (f : List Byte) (s : State) : (loadTx f s).ecuAddrWritten = s.ecuAddrWritten := rfl
@[simp] theorem loadTx_unitOut (f : List Byte) (s : State) : (loadTx f s).unitOut = s.unitOut := rfl
@[simp] theorem loadTx_outputs (f : List Byte) (s : State) : (loadTx f s).outputs = s.outputs := rfl
@[simp] theorem loadTx_presented (f : List Byte) (s : State) : (loadTx f s).presented = s.presented := rfl
@[simp] theorem loadTx_inputs (f : List Byte) (s : State) : (loadTx f s).inputs = s.inputs := rfl
@[simp] theorem loadTx_answers (f : List Byte) (s : State) : (loadTx f s).answers = s.answers := rfl
@[simp] theorem loadTx_callNo (f : List Byte) (s : State) : (loadTx f s).callNo = s.callNo := rfl

/-! ### writing `tx_frame` -/

@[simp] theorem sendTx_cfg (s : State) : (sendTx s).cfg = s.cfg := rfl
@[simp] theorem sendTx_ismState (s : State) : (sendTx s).ismState = s.ismState := rfl
@[simp] theorem sendTx_initMode (s : State) : (sendTx s).initMode = s.initMode := rfl
@[simp] theorem sendTx_ecuAddr (s : State) : (sendTx s).ecuAddr = s.ecuAddr := rfl
@[simp] theorem sendTx_bitIdx (s : State) : (sendTx s).bitIdx = s.bitIdx := rfl
@[simp] theorem sendTx_initTimer (s : State) : (sendTx s).initTimer = s.initTimer := rfl
@[simp] theorem sendTx_failReason (s : State) : (sendTx s).failReason = s.failReason := rfl
@[simp] theorem sendTx_txFrame (s : State) : (sendTx s).txFrame = s.txFrame := rfl
@[simp] theorem sendTx_txLen (s : State) : (sendTx s).txLen = 0#9 := rfl
@[simp] theorem sendTx_pendingValid (s : State) : (sendTx s).pendingValid = s.pendingValid := rfl
@[simp] theorem sendTx_pendingSid (s : State) : (sendTx s).pendingSid = s.pendingSid := rfl
@[simp] theorem sendTx_respTimer (s : State) : (sendTx s).respTimer = s.respTimer := rfl
@[simp] theorem sendTx_guardTimer (s : State) : (sendTx s).guardTimer = s.guardTimer := rfl
@[simp] theorem sendTx_queue (s : State) : (sendTx s).queue = s.queue := rfl
@[simp] theorem sendTx_tOpen (s : State) : (sendTx s).tOpen = s.tOpen := rfl
@[simp] theorem sendTx_tBaud (s : State) : (sendTx s).tBaud = s.tBaud := rfl
@[simp] theorem sendTx_tLineLow (s : State) : (sendTx s).tLineLow = s.tLineLow := rfl
@[simp] theorem sendTx_ecuAddrWritten (s : State) : (sendTx s).ecuAddrWritten = s.ecuAddrWritten := rfl
@[simp] theorem sendTx_unitOut (s : State) : (sendTx s).unitOut = s.unitOut := rfl
@[simp] theorem sendTx_outputs (s : State) : (sendTx s).outputs = s.outputs ++ [.call (.write s.txBytes s.answer)] := rfl
@[simp] theorem sendTx_presented (s : State) : (sendTx s).presented = s.presented := rfl
@[simp] theorem sendTx_inputs (s : State) : (sendTx s).inputs = s.inputs := rfl
@[simp] theorem sendTx_answers (s : State) : (sendTx s).answers = s.answers.tail := rfl
@[simp] theorem sendTx_callNo (s : State) : (sendTx s).callNo = s.callNo + 1 := rfl

/-! ### showing a unit's value -/

@[simp] theorem showUnit_cfg (v : UnitValue) (s : State) : (showUnit v s).cfg = s.cfg := rfl
@[simp] theorem showUnit_ismState (v : UnitValue) (s : State) : (showUnit v s).ismState = s.ismState := rfl
@[simp] theorem showUnit_initMode (v : UnitValue) (s : State) : (showUnit v s).initMode = s.initMode := rfl
@[simp] theorem showUnit_ecuAddr (v : UnitValue) (s : State) : (showUnit v s).ecuAddr = s.ecuAddr := rfl
@[simp] theorem showUnit_bitIdx (v : UnitValue) (s : State) : (showUnit v s).bitIdx = s.bitIdx := rfl
@[simp] theorem showUnit_initTimer (v : UnitValue) (s : State) : (showUnit v s).initTimer = s.initTimer := rfl
@[simp] theorem showUnit_failReason (v : UnitValue) (s : State) : (showUnit v s).failReason = s.failReason := rfl
@[simp] theorem showUnit_txFrame (v : UnitValue) (s : State) : (showUnit v s).txFrame = s.txFrame := rfl
@[simp] theorem showUnit_txLen (v : UnitValue) (s : State) : (showUnit v s).txLen = s.txLen := rfl
@[simp] theorem showUnit_pendingValid (v : UnitValue) (s : State) : (showUnit v s).pendingValid = s.pendingValid := rfl
@[simp] theorem showUnit_pendingSid (v : UnitValue) (s : State) : (showUnit v s).pendingSid = s.pendingSid := rfl
@[simp] theorem showUnit_respTimer (v : UnitValue) (s : State) : (showUnit v s).respTimer = s.respTimer := rfl
@[simp] theorem showUnit_guardTimer (v : UnitValue) (s : State) : (showUnit v s).guardTimer = s.guardTimer := rfl
@[simp] theorem showUnit_queue (v : UnitValue) (s : State) : (showUnit v s).queue = s.queue := rfl
@[simp] theorem showUnit_tOpen (v : UnitValue) (s : State) : (showUnit v s).tOpen = s.tOpen := rfl
@[simp] theorem showUnit_tBaud (v : UnitValue) (s : State) : (showUnit v s).tBaud = s.tBaud := rfl
@[simp] theorem showUnit_tLineLow (v : UnitValue) (s : State) : (showUnit v s).tLineLow = s.tLineLow := rfl
@[simp] theorem showUnit_ecuAddrWritten (v : UnitValue) (s : State) : (showUnit v s).ecuAddrWritten = s.ecuAddrWritten := rfl
@[simp] theorem showUnit_unitOut (v : UnitValue) (s : State) : (showUnit v s).unitOut = some v := rfl
@[simp] theorem showUnit_outputs (v : UnitValue) (s : State) : (showUnit v s).outputs = s.outputs := rfl
@[simp] theorem showUnit_presented (v : UnitValue) (s : State) : (showUnit v s).presented = s.presented := rfl
@[simp] theorem showUnit_inputs (v : UnitValue) (s : State) : (showUnit v s).inputs = s.inputs := rfl
@[simp] theorem showUnit_answers (v : UnitValue) (s : State) : (showUnit v s).answers = s.answers := rfl
@[simp] theorem showUnit_callNo (v : UnitValue) (s : State) : (showUnit v s).callNo = s.callNo := rfl

end Sys2Proof.Machine
end

