-- ==== Sys2Proof/Laws/Memory.lean ====
section
/-! SUPPORT. The buffer `tx_frame` as memory: read after write, and the canonical form is kept. -/

namespace Sys2Proof.Machine

theorem Memory.read_filter_ne (m : Memory) {a b : Nat} (h : b ≠ a) :
    Memory.read (m.filter fun c => c.1 ≠ a) b = m.read b := by
  induction m with
  | nil => rfl
  | cons c m ih =>
    by_cases hc : c.1 = a
    · have hcb : c.1 ≠ b := fun e => h (e.symm.trans hc)
      simpa [List.filter, hc, Memory.read, Ne.symm h] using ih
    · by_cases hb : c.1 = b
      · subst hb; simp [List.filter, hc, Memory.read]
      · simpa [List.filter, hc, Memory.read, hb] using ih

theorem Memory.read_filter_same (m : Memory) (a : Nat) :
    Memory.read (m.filter fun c => c.1 ≠ a) a = blankByte := by
  induction m with
  | nil => rfl
  | cons c m ih =>
    by_cases hc : c.1 = a
    · simpa [List.filter, hc] using ih
    · simpa [List.filter, hc, Memory.read] using ih

theorem Memory.read_insert_same (m : Memory) (a : Nat) (v : Byte) (h : ∀ c ∈ m, c.1 ≠ a) :
    Memory.read (Memory.insert (a, v) m) a = v := by
  induction m with
  | nil => simp [Memory.insert, Memory.read]
  | cons d m ih =>
    have hd : d.1 ≠ a := h d (by simp)
    unfold Memory.insert
    split
    · simp [Memory.read]
    · simpa [Memory.read, hd] using ih fun c hc => h c (by simp [hc])

theorem Memory.read_insert_other (m : Memory) (c : Host.Cell) {b : Nat} (h : c.1 ≠ b) :
    Memory.read (Memory.insert c m) b = m.read b := by
  induction m with
  | nil => simp [Memory.insert, Memory.read, h]
  | cons d m ih =>
    unfold Memory.insert
    split
    · simp [Memory.read, h]
    · by_cases hd : d.1 = b
      · simp [Memory.read, hd]
      · simpa [Memory.read, hd] using ih

/-- Reading the byte just written gives it. -/
theorem Memory.read_write_same (m : Memory) (a : Nat) (v : Byte) : (m.write a v).read a = v := by
  unfold Memory.write
  split
  · next h => rw [Memory.read_filter_same, h]
  · exact Memory.read_insert_same _ _ _ (by simp)

/-- A write leaves every other byte alone. -/
theorem Memory.read_write_other (m : Memory) {a b : Nat} (v : Byte) (h : b ≠ a) :
    (m.write a v).read b = m.read b := by
  unfold Memory.write
  split
  · exact Memory.read_filter_ne m h
  · rw [Memory.read_insert_other _ _ (Ne.symm h), Memory.read_filter_ne m h]

/-- `MemWrite` leaves every byte outside its range alone. -/
theorem Memory.read_writeBytes_outside (bs : List Byte) :
    ∀ (m : Memory) (i b : Nat), b < i ∨ i + bs.length ≤ b → (m.writeBytes i bs).read b = m.read b := by
  induction bs with
  | nil => intros; rfl
  | cons v vs ih =>
    intro m i b h
    simp only [List.length_cons] at h
    rw [Memory.writeBytes, ih _ _ _ (by omega), Memory.read_write_other _ _ (by omega)]

/-- `MemRead` of what `MemWrite` wrote. -/
theorem Memory.readBytes_writeBytes (bs : List Byte) :
    ∀ (m : Memory) (i : Nat), (m.writeBytes i bs).readBytes i bs.length = bs := by
  induction bs with
  | nil => intros; rfl
  | cons v vs ih =>
    intro m i
    rw [Memory.writeBytes, List.length_cons, Memory.readBytes, ih,
      Memory.read_writeBytes_outside vs _ _ _ (by omega), Memory.read_write_same]

theorem Memory.mem_insert (m : Memory) (c d : Host.Cell) :
    d ∈ Memory.insert c m ↔ d = c ∨ d ∈ m := by
  induction m with
  | nil => simp [Memory.insert]
  | cons e m ih =>
    unfold Memory.insert
    split
    · simp
    · simp only [List.mem_cons, ih]; tauto

theorem Memory.wf_cons (c : Host.Cell) (m : Memory) :
    Memory.wf (c :: m) = true ↔ c.2 ≠ blankByte ∧ (∀ d ∈ m, c.1 < d.1) ∧ m.wf = true := by
  simp [Memory.wf, and_assoc]

theorem Memory.wf_filter (m : Memory) (p : Host.Cell → Bool) (h : m.wf = true) :
    Memory.wf (m.filter p) = true := by
  induction m with
  | nil => rfl
  | cons c m ih =>
    obtain ⟨h1, h2, h3⟩ := (Memory.wf_cons c m).1 h
    unfold List.filter
    split
    · exact (Memory.wf_cons _ _).2 ⟨h1, fun d hd => h2 d (List.mem_filter.1 hd).1, ih h3⟩
    · exact ih h3

theorem Memory.wf_insert (m : Memory) (c : Host.Cell) (hc : c.2 ≠ blankByte) (hn : ∀ d ∈ m, d.1 ≠ c.1)
    (h : m.wf = true) : Memory.wf (Memory.insert c m) = true := by
  induction m with
  | nil => exact (Memory.wf_cons _ _).2 ⟨hc, by simp, rfl⟩
  | cons d m ih =>
    obtain ⟨h1, h2, h3⟩ := (Memory.wf_cons d m).1 h
    unfold Memory.insert
    split
    · next hlt =>
      refine (Memory.wf_cons _ _).2 ⟨hc, fun e he => ?_, h⟩
      rcases List.mem_cons.1 he with rfl | he
      · exact hlt
      · exact lt_trans hlt (h2 e he)
    · next hge =>
      refine (Memory.wf_cons _ _).2 ⟨h1, fun e he => ?_, ih (fun e he => hn e (by simp [he])) h3⟩
      rcases (Memory.mem_insert m c e).1 he with rfl | he
      · have := hn d (by simp); omega
      · exact h2 e he

/-- A write keeps the canonical form. -/
theorem Memory.wf_write (m : Memory) (a : Nat) (v : Byte) (h : m.wf = true) : (m.write a v).wf = true := by
  unfold Memory.write
  split
  · exact Memory.wf_filter m _ h
  · next hv => exact Memory.wf_insert _ _ hv (by simp) (Memory.wf_filter m _ h)

/-- `MemWrite` keeps the canonical form. -/
theorem Memory.wf_writeBytes (bs : List Byte) :
    ∀ (m : Memory) (i : Nat), m.wf = true → (m.writeBytes i bs).wf = true := by
  induction bs with
  | nil => intro m i h; exact h
  | cons v vs ih => intro m i h; exact ih _ _ (Memory.wf_write m i v h)

theorem Memory.inTxFrame_iff (m : Memory) : m.inTxFrame = true ↔ ∀ c ∈ m, c.1 < Config.txFrameSize := by
  simp [Memory.inTxFrame]

/-- A write inside `tx_frame` lists no byte outside it. -/
theorem Memory.inTxFrame_write (m : Memory) (a : Nat) (v : Byte) (ha : a < Config.txFrameSize)
    (h : m.inTxFrame = true) : (m.write a v).inTxFrame = true := by
  rw [Memory.inTxFrame_iff] at h ⊢
  have hf : ∀ c ∈ m.filter (fun c => c.1 ≠ a), c.1 < Config.txFrameSize := fun c hc => h c (List.mem_filter.1 hc).1
  unfold Memory.write
  split
  · exact hf
  · intro c hc
    rcases (Memory.mem_insert _ _ _).1 hc with rfl | hc
    · exact ha
    · exact hf c hc

/-- `MemWrite` inside `tx_frame` lists no byte outside it. -/
theorem Memory.inTxFrame_writeBytes (bs : List Byte) :
    ∀ (m : Memory) (i : Nat), i + bs.length ≤ Config.txFrameSize → m.inTxFrame = true →
      (m.writeBytes i bs).inTxFrame = true := by
  induction bs with
  | nil => intro m i _ h; exact h
  | cons v vs ih =>
    intro m i hi h
    simp only [List.length_cons] at hi
    exact ih _ _ (by omega) (Memory.inTxFrame_write m i v (by omega) h)

/-- The buffer at reset is canonical. -/
theorem State.reset_txFrame_wf : State.reset.txFrame.wf = true := rfl

end Sys2Proof.Machine
end

