-- ==== Sys2Proof/Laws/Codec.lean ====
section
/-! SUPPORT. What the Frame Codec and the DTC Decoder do, one lemma per function. -/

namespace Sys2Proof.Machine

theorem byteSum_append (a b : List Byte) : byteSum (a ++ b) = byteSum a + byteSum b := by
  induction a with
  | nil => simp [byteSum]
  | cons x a ih => simp [byteSum, ih, Nat.add_assoc]

@[simp] theorem frameBody_length (hdr : Header) (sid : Byte) (p : List Byte) :
    (frameBody hdr sid p).length = 5 + p.length := by
  simp [frameBody]; omega

@[simp] theorem buildFrame_length (hdr : Header) (sid : Byte) (p : List Byte) :
    (buildFrame hdr sid p).length = 6 + p.length := by
  simp [buildFrame]; omega

@[simp] theorem buildFrame_dropLast (hdr : Header) (sid : Byte) (p : List Byte) :
    (buildFrame hdr sid p).dropLast = frameBody hdr sid p := by
  simp [buildFrame]

@[simp] theorem buildFrame_last (hdr : Header) (sid : Byte) (p : List Byte) (d : Byte) :
    (buildFrame hdr sid p).getLastD d = checksumOf (frameBody hdr sid p) := by
  simp [buildFrame, List.getLastD_eq_getLast?]

@[simp] theorem buildFrame_payload (hdr : Header) (sid : Byte) (p : List Byte) :
    payloadOf (buildFrame hdr sid p) = p := by
  simp [payloadOf, frameBody]

theorem byte_toNat_of_lt {n : Nat} (h : n < 256) : (byte n).toNat = n := by
  simp [byte, BitVec.toNat_ofNat, Nat.mod_eq_of_lt h]

/-- `DECODE` of a frame of a payload that fits: lines 5 to 9 of R122 decide. -/
theorem decodeFrame_buildFrame (neg : Byte) (hdr : Header) (sid : Byte) (p : List Byte) (hp : p.length ≤ Config.maxPayload) :
    decodeFrame neg (buildFrame hdr sid p) = decodeBody neg sid p := by
  have hl : (buildFrame hdr sid p).getD 3 0#8 = byte (1 + p.length) := by simp [buildFrame, frameBody]
  have hs : (buildFrame hdr sid p).getD 4 0#8 = sid := by simp [buildFrame, frameBody]
  have hp' : p.length ≤ 254 := hp
  have hn : ¬ (6 + p.length < 5) := by omega
  have hn5 : ¬ (6 + p.length = 5) := by omega
  have hlen : (byte (1 + p.length)).toNat = 6 + p.length - 5 := by
    rw [byte_toNat_of_lt (by omega)]; omega
  simp only [decodeFrame, buildFrame_length, hn, hn5, if_false, buildFrame_last, buildFrame_dropLast, ne_eq,
    not_true_eq_false, hl, hs, hlen, buildFrame_payload]

/-- What a block that decodes is made of: it is the frame of its own header, SID and payload. -/
theorem frame_of_decodeFrame (neg : Byte) (b : List Byte) (h : ∀ e, decodeFrame neg b ≠ .error e) :
    ∃ hdr sid p, p.length ≤ Config.maxPayload ∧ b = buildFrame hdr sid p ∧ decodeFrame neg b = decodeBody neg sid p := by
  by_cases h1 : b.length < 5
  · exact absurd (by simp [decodeFrame, h1]) (h .frameTooShort)
  by_cases h2 : b.getLastD 0#8 = checksumOf b.dropLast
  swap
  · exact absurd (by rw [decodeFrame, if_neg h1, if_pos h2]) (h .checksumMismatch)
  by_cases h3 : b.length = 5
  · exact absurd (by rw [decodeFrame, if_neg h1, if_neg (not_not.2 h2), if_pos h3]) (h .lengthMismatch)
  by_cases h4 : (b.getD 3 0#8).toNat = b.length - 5
  swap
  · exact absurd (by rw [decodeFrame, if_neg h1, if_neg (not_not.2 h2), if_neg h3, if_pos h4]) (h .lengthMismatch)
  match b, h1, h2, h3, h4 with
  | x0 :: x1 :: x2 :: x3 :: x4 :: x5 :: r, _, h2, _, h4 =>
    have hne : (x5 :: r) ≠ [] := by simp
    obtain ⟨p, c, hpc⟩ : ∃ p c, x5 :: r = p ++ [c] :=
      ⟨(x5 :: r).dropLast, (x5 :: r).getLast hne, (List.dropLast_append_getLast hne).symm⟩
    have hlen : r.length = p.length := by
      have := congrArg List.length hpc; simpa using this
    have h4' : x3.toNat = 1 + p.length := by
      simp at h4; omega
    have hx3 : x3 = byte (1 + p.length) := by
      apply BitVec.eq_of_toNat_eq
      have := x3.isLt
      rw [byte_toNat_of_lt (by omega), h4']
    have hp : p.length ≤ Config.maxPayload := by
      have := x3.isLt; show p.length ≤ 254; omega
    have hb : x0 :: x1 :: x2 :: x3 :: x4 :: x5 :: r = frameBody ⟨x0, x1, x2⟩ x4 p ++ [c] := by
      simp [frameBody, hpc, hx3]
    have hc : c = checksumOf (frameBody ⟨x0, x1, x2⟩ x4 p) := by
      rw [hb] at h2
      simpa [List.getLastD_eq_getLast?] using h2
    refine ⟨⟨x0, x1, x2⟩, x4, p, hp, ?_, ?_⟩
    · rw [hb, hc]; rfl
    · rw [hb, hc]; exact decodeFrame_buildFrame _ _ _ _ hp
  | [], h1, _, _, _ => simp at h1
  | [_], h1, _, _, _ => simp at h1
  | [_, _], h1, _, _, _ => simp at h1
  | [_, _, _], h1, _, _, _ => simp at h1
  | [_, _, _, _], h1, _, _, _ => simp at h1
  | [_, _, _, _, _], _, _, h3, _ => simp at h3

/-- `ENCODE` of a payload that fits (R121). -/
theorem encodeFrame_fits (c : Cfg) (t s sid : Byte) (p : List Byte) (h : p.length ≤ c.maxPayload.toNat) :
    encodeFrame c t s sid p = .frame (buildFrame ⟨c.formatByte, t, s⟩ sid p) := by
  simp [encodeFrame, Nat.not_lt.2 h]

/-- `ENCODE` of a payload that does not (R121, R284). -/
theorem encodeFrame_oversized (c : Cfg) (t s sid : Byte) (p : List Byte) (h : c.maxPayload.toNat < p.length) :
    encodeFrame c t s sid p = .invalidPayload := by
  simp [encodeFrame, h]

/-- A payload whose groups are all there gives one DTC per group (R260). -/
theorem dtcGroups_length : ∀ (n : Nat) (p : List Byte), 3 * n ≤ p.length → (dtcGroups n p).length = n
  | 0, p, _ => by simp [dtcGroups]
  | n + 1, h :: l :: s :: rest, hp => by
      simp only [dtcGroups, List.length_cons] at hp ⊢
      rw [dtcGroups_length n rest (by omega)]
  | n + 1, [], hp => by simp at hp
  | n + 1, [_], hp => by simp at hp; omega
  | n + 1, [_, _], hp => by simp at hp; omega

end Sys2Proof.Machine
end

