-- ==== Sys2Proof/Laws/Ops.lean ====
section
/-! SUPPORT. What each shared operation can do, said once. -/

namespace Sys2Proof.Machine

/-! ### Timers -/

@[simp] theorem countDown_zero : countDown 0#16 = 0#16 := rfl

theorem expires_iff (t : Millis) : expires t = true ↔ t = 1#16 := by simp [expires]

theorem countDown_of_ne_zero {t : Millis} (h : t ≠ 0#16) : countDown t = t - 1#16 := by simp [countDown, h]

/-- A timer that is neither 0 nor 1 stays non-zero. -/
theorem countDown_ne_zero {t : Millis} (h0 : t ≠ 0#16) (h1 : t ≠ 1#16) : countDown t ≠ 0#16 := by
  rw [countDown_of_ne_zero h0]; bv_omega

/-- A Tick of a timed ISM state: nothing at 0, expiry at 1, one less otherwise (R11). -/
theorem tickInit_cases (k : State → State) (s : State) :
    (s.initTimer = 1#16 ∧ tickInit k s = k { s with initTimer := 0#16 }) ∨
    (s.initTimer ≠ 1#16 ∧ tickInit k s = { s with initTimer := countDown s.initTimer }) := by
  by_cases h : s.initTimer = 1#16
  · exact .inl ⟨h, by simp [tickInit, expires, h]⟩
  · exact .inr ⟨h, by simp [tickInit, expires, h]⟩

/-! ### Flags -/

theorem sdIdle_iff (s : State) : s.sdIdle = true ↔ s.pendingValid = false ∧ s.queue = [] := by
  simp [State.sdIdle, State.queueEmpty]

theorem dispatchEnabled_iff (s : State) :
    s.dispatchEnabled = true ↔
      s.ismState = .ready ∧ s.pendingValid = false ∧ s.queue ≠ [] ∧ s.guardTimer = 0#16 := by
  simp [State.dispatchEnabled, State.linkReady, State.queueEmpty, State.guardOpen, and_assoc]

theorem ismWriteEnabled_iff (s : State) : s.ismWriteEnabled = true ↔ s.ismState = .sendingStartComm := by
  simp [State.ismWriteEnabled]

theorem linkState_ready_iff (s : State) : s.linkState = .ready ↔ s.ismState = .ready := by
  unfold State.linkState; cases s.ismState <;> simp [linkOf]

/-! ### `tx_frame` -/

theorem frame_length_toNat {f : List Byte} (h : f.length < 512) :
    (BitVec.ofNat 9 f.length).toNat = f.length := by
  rw [BitVec.toNat_ofNat]; omega

/-- What has been loaded is what is written (R28, R57). -/
theorem loadTx_txBytes (f : List Byte) (s : State) (h : f.length < 512) :
    (loadTx f s).txBytes = f := by
  simp only [State.txBytes, loadTx_txFrame, loadTx_txLen, frame_length_toNat h, Memory.readBytes_writeBytes]

/-- Where the configuration has room for one payload byte, `SendingStartComm` is entered with the frame in `tx_frame`
(R126, R162). -/
theorem loadStartComm_of_room (s : State) (h : 1 ≤ s.cfg.maxPayload.toNat) :
    loadStartComm s =
      { loadTx (buildFrame ⟨s.cfg.formatByte, s.ecuAddr, s.cfg.testerAddr⟩ s.cfg.sidStartComm [s.cfg.sessionType]) s with
        ismState := .sendingStartComm } := by
  simp only [loadStartComm, encodeFrame_fits _ _ _ _ _ (show [s.cfg.sessionType].length ≤ _ from h)]

/-- Where it has none, the run fails (R281; log 21). -/
theorem loadStartComm_of_no_room (s : State) (h : s.cfg.maxPayload.toNat = 0) :
    loadStartComm s = failWith Config.freeEncodeFailReason s := by
  simp only [loadStartComm,
    encodeFrame_oversized _ _ _ _ _ (show s.cfg.maxPayload.toNat < [s.cfg.sessionType].length by simp [h])]

/-- What `SendingStartComm` waits to write is the StartCommunication frame (R92, R162). -/
theorem loadStartComm_txBytes (s : State) (h : 1 ≤ s.cfg.maxPayload.toNat) :
    (loadStartComm s).txBytes =
      buildFrame ⟨s.cfg.formatByte, s.ecuAddr, s.cfg.testerAddr⟩ s.cfg.sidStartComm [s.cfg.sessionType] := by
  rw [loadStartComm_of_room s h]
  exact loadTx_txBytes _ s (by simp)

/-! ### Starting an initialization -/

/-- The state in which the chosen variant begins (R152 lines 4 and 5). -/
def accepted (mode : InitMode) (a : Byte) (s : State) : State :=
  ({ callIsOpen s with ecuAddr := a, ecuAddrWritten := true, initMode := mode, failReason := .none }.emit
    (.ack .ok)).emit (.notify .synchronizing)

/-- R152: refused, failed on the open check, or begun. -/
theorem startInit_cases (mode : InitMode) (a : Byte) (k : State → State) (s : State) :
    ((s.linkState = .synchronizing ∨ s.sdIdle = false) ∧ startInit mode a k s = s.emit (.ack (.err .busy))) ∨
    (s.linkState ≠ .synchronizing ∧ s.sdIdle = true ∧ s.tOpen = false ∧
      startInit mode a k s = failWith .transportNotOpen ((callIsOpen s).emit (.ack (.err .transportNotOpen)))) ∨
    (s.linkState ≠ .synchronizing ∧ s.sdIdle = true ∧ s.tOpen = true ∧
      startInit mode a k s = k (accepted mode a s)) := by
  by_cases h1 : s.linkState = .synchronizing
  · exact .inl ⟨.inl h1, by simp [startInit, h1]⟩
  cases h2 : s.sdIdle
  · exact .inl ⟨.inr rfl, by simp [startInit, h1, h2]⟩
  cases h3 : s.tOpen
  · exact .inr (.inl ⟨h1, rfl, rfl, by simp [startInit, h1, h2, h3]⟩)
  · exact .inr (.inr ⟨h1, rfl, rfl, by simp [startInit, h1, h2, h3, accepted]⟩)

/-! ### Requests -/

/-- R201: refused without a state change, or enqueued. -/
theorem acceptRequest_cases (sid : Byte) (p : List Byte) (s : State) :
    (∃ e, (e = .invalidPayload ∨ e = .busy) ∧ acceptRequest sid p s = s.emit (.ack (.err e))) ∨
    (p.length ≤ s.cfg.maxPayload.toNat ∧ s.ismState = .ready ∧ s.queue.length ≠ s.cfg.queueDepth ∧
      (s.cfg.queueMode = .reject → s.pendingValid = false ∧ s.queue = []) ∧
      acceptRequest sid p s = { s with queue := s.queue ++ [requestOf s.cfg sid p] }.emit (.ack .ok)) := by
  unfold acceptRequest
  split_ifs with h1 h2 h3 h4
  · exact .inl ⟨_, .inl rfl, rfl⟩
  · exact .inl ⟨_, .inr rfl, rfl⟩
  · exact .inl ⟨_, .inr rfl, rfl⟩
  · exact .inl ⟨_, .inr rfl, rfl⟩
  · refine .inr ⟨not_lt.1 h1, (linkState_ready_iff s).1 (not_not.1 h2), ?_, fun hr => ?_, rfl⟩
    · simpa [State.queueFull] using h4
    · simpa [hr, State.queueEmpty] using h3

/-- A memory command is no command for these operands and changes nothing, or is the request of the built payload. -/
theorem acceptBuilt_cases (sid : Byte) (payload : Option (List Byte)) (s : State) :
    (payload = none ∧ acceptBuilt sid payload s = s) ∨
    (∃ p, payload = some p ∧ acceptBuilt sid payload s = acceptRequest sid p s) := by
  cases payload with
  | none => exact .inl ⟨rfl, rfl⟩
  | some p => exact .inr ⟨p, rfl, rfl⟩

/-- R210 to R212, for a queue whose head fits a frame: written and awaited, written and done, or the write failed. -/
theorem dispatch_cons (s : State) (req : ServiceRequest) (rest : List ServiceRequest) (hq : s.queue = req :: rest)
    (hp : req.payload.length ≤ s.cfg.maxPayload.toNat) :
    dispatch s =
      afterWrite req s.answer
        (sendTx (loadTx (buildFrame ⟨s.cfg.formatByte, s.ecuAddr, s.cfg.testerAddr⟩ req.serviceId req.payload)
          { s with queue := rest })) := by
  simp only [dispatch, hq, encodeFrame_fits _ _ _ _ _ hp]

/-- R215 to R219: the pending request is resolved, or nothing but the log changes. -/
theorem receive_cases (b : List Byte) (s : State) :
    (∃ k, receive b s = (s.emit (.rawRx b)).emit (.log k)) ∨
    (s.pendingValid = true ∧ ∃ r, receive b s = resolveWith r (s.emit (.rawRx b))) := by
  unfold receive handleFrame
  split
  · exact .inl ⟨_, rfl⟩
  · split
    · next h => exact .inr ⟨h, _, rfl⟩
    · exact .inl ⟨_, rfl⟩
  · split
    · next h => exact .inr ⟨by simpa using (Bool.and_eq_true_iff.1 h).1, _, rfl⟩
    · exact .inl ⟨_, rfl⟩

/-- R225: nothing pending; the timeout; or the response timer counts. -/
theorem tickDispatcher_cases (s : State) :
    (s.pendingValid = false ∧ tickDispatcher s = { s with guardTimer := countDown s.guardTimer }) ∨
    (s.pendingValid = true ∧ s.respTimer = 1#16 ∧
      tickDispatcher s = resolveWith (.err .responseTimeout) s) ∨
    (s.pendingValid = true ∧ s.respTimer ≠ 1#16 ∧
      tickDispatcher s =
        { s with guardTimer := countDown s.guardTimer, respTimer := countDown s.respTimer }) := by
  cases hp : s.pendingValid
  · exact .inl ⟨rfl, by simp [tickDispatcher, hp]⟩
  · by_cases h : s.respTimer = 1#16
    · exact .inr (.inl ⟨rfl, h, by simp [tickDispatcher, hp, h, expires, resolveWith, State.emit]⟩)
    · exact .inr (.inr ⟨rfl, h, by simp [tickDispatcher, hp, h, expires]⟩)

end Sys2Proof.Machine
end

