-- ==== Sys2Proof/Laws/Decode.lean ====
section
/-! SUPPORT. What the decoder gives: every row of an inbound block acts as `Rx` of its bytes. -/

namespace Sys2Proof

open Machine

/-- The header a frame was built with. -/
theorem headerOf_buildFrame (hdr : Header) (sid : Byte) (p : List Byte) :
    headerOf (buildFrame hdr sid p) = hdr := by
  cases hdr; simp [headerOf, buildFrame, frameBody]

/-- The bytes a row of an inbound block stands for are the block. -/
theorem encode_decodeBlock (expected : Option Byte) (b : List Byte) :
    encode (decodeBlock expected b) = some (.inbound, b) := by
  unfold decodeBlock
  cases hd : decodeFrame 0x7F#8 b with
  | error e => rfl
  | negative rs ec =>
    obtain ⟨hdr, sid, p, hp, rfl, he⟩ := frame_of_decodeFrame 0x7F#8 b (by simp [hd])
    rw [hd] at he
    unfold decodeBody at he
    split at he
    · next hs =>
      split at he
      · next r e t =>
        injection he with h1 h2
        subst h1 h2
        simp [encode, headerOf_buildFrame, hs]
      · cases he
    · cases he
  | service sid' p' =>
    obtain ⟨hdr, sid, p, hp, rfl, he⟩ := frame_of_decodeFrame 0x7F#8 b (by simp [hd])
    rw [hd] at he
    unfold decodeBody at he
    split at he
    · split at he <;> cases he
    · injection he with h1 h2
      subst h1 h2
      simp only [serviceRow]
      split_ifs with h1 h2 h3 h4
      · simp [encode, headerOf_buildFrame, h1]
      · simp [encode, headerOf_buildFrame, h2]
      · simp [encode, headerOf_buildFrame, h3]
      · simp [encode, headerOf_buildFrame]
      · cases hdr
        simp only [encode, headerOf_buildFrame, buildFrame_last]
        simp [buildFrame, frameBody]

/-- An inbound row is `Rx` of its bytes (R215). -/
theorem exec_inbound (i : Instr) (b : List Byte) (s : State) (h : encode i = some (.inbound, b)) :
    exec i s = .next (receive b s) := by
  cases i <;> simp only [encode, Option.some.injEq, Prod.mk.injEq, reduceCtorEq, false_and, true_and] at h <;>
    subst h <;> rfl

/-- What a step does with a delivered block, whatever its row. -/
theorem exec_decodeBlock (expected : Option Byte) (b : List Byte) (s : State) :
    exec (decodeBlock expected b) s = .next (receive b s) :=
  exec_inbound _ _ _ (encode_decodeBlock expected b)

end Sys2Proof
end

