-- ==== Sys2Proof/Laws/Payload.lean ====
section
/-! SUPPORT. The laws of the payload builders: what `CFG.MEM_REQ_PAYLOAD` gives, and that it can give what an integrator
chooses. -/

namespace Sys2Proof

/-- A builder changed at one pair of operands gives the chosen payload there. -/
@[simp] theorem PayloadBuilder.build_override_same (a o p : List Byte) (b : PayloadBuilder) :
    (PayloadBuilder.override a o p b).build a o = p := by simp [build]

/-- Everywhere else it gives what it gave before. -/
theorem PayloadBuilder.build_override_other (a o p a' o' : List Byte) (b : PayloadBuilder) (h : ¬(a' = a ∧ o' = o)) :
    (PayloadBuilder.override a o p b).build a' o' = b.build a' o' := by simp only [build, if_neg h]

/-- Whatever function an integrator chooses, some builder of a configuration computes it on any finitely many operands,
so on all operands of fixed widths. -/
theorem PayloadBuilder.exists_build_eq (f : List Byte → List Byte → List Byte) (l : List (List Byte × List Byte)) :
    ∃ b : PayloadBuilder, ∀ x ∈ l, b.build x.1 x.2 = f x.1 x.2 := by
  induction l with
  | nil => exact ⟨.layout [], by simp⟩
  | cons y l ih =>
    obtain ⟨b, hb⟩ := ih
    refine ⟨.override y.1 y.2 (f y.1 y.2) b, fun x hx => ?_⟩
    by_cases h : x.1 = y.1 ∧ x.2 = y.2
    · simp [build, h]
    · rw [build_override_other _ _ _ _ _ _ h]
      rcases List.mem_cons.1 hx with rfl | hx
      · exact absurd ⟨rfl, rfl⟩ h
      · exact hb x hx

/-- `read` of operands that have the widths of the configuration. -/
theorem MemReqPayload.read_of_widths (m : MemReqPayload) (address size : List Byte)
    (ha : address.length = m.addressBytes) (hs : size.length = m.sizeBytes) :
    m.read address size = some (m.readBuilder.build address size) := if_pos ⟨ha, hs⟩

/-- `read` of other operands. -/
theorem MemReqPayload.read_of_other_widths (m : MemReqPayload) (address size : List Byte)
    (h : ¬(address.length = m.addressBytes ∧ size.length = m.sizeBytes)) : m.read address size = none := if_neg h

/-- `write` with an address of the width of the configuration. -/
theorem MemReqPayload.write_of_width (m : MemReqPayload) (address data : List Byte)
    (ha : address.length = m.addressBytes) :
    m.write address data = some (m.writeBuilder.build address data) := if_pos ha

/-- `write` with another address. -/
theorem MemReqPayload.write_of_other_width (m : MemReqPayload) (address data : List Byte)
    (h : address.length ≠ m.addressBytes) : m.write address data = none := if_neg h

end Sys2Proof
end

