-- ==== Sys2Proof/Laws/PerInstr.lean ====
section
/-! SUPPORT. What is proved of every instruction as syntax, one lemma per constructor. -/

namespace Sys2Proof.Laws.TableBits

/-- The fixed bits spec/opcode_table.json gives a row: one byte, for 17 rows of the 41. -/
def tableByte : Instr → Option Byte
  | .startInit5Baud _ => some 0x01#8
  | .startInitFast _ => some 0x02#8
  | .cancelInit => some 0x03#8
  | .cancelRequest => some 0x04#8
  | .sendService _ _ => some 0x10#8
  | .readDtcs => some 0x11#8
  | .clearDtcs => some 0x12#8
  | .testerPresent => some 0x13#8
  | .readMemory _ _ => some 0x14#8
  | .writeMemory _ _ => some 0x15#8
  | .checksum _ => none
  | .encode _ _ _ _ => none
  | .decode _ => none
  | .dtcDecode _ => none
  | .dtcCode _ _ => none
  | .frame _ _ _ _ _ => none
  | .sidReadDtcs => some 0x18#8
  | .rspReadDtcs _ _ => some 0x58#8
  | .sidTesterPresent => some 0x3E#8
  | .rspTesterPresent _ _ => some 0x7E#8
  | .sidStartCommunication => some 0x81#8
  | .rspStartCommunication _ _ => some 0xC1#8
  | .negativeResponse _ _ _ _ => some 0x7F#8
  | .positiveResponse _ _ _ => none
  | .tickSendingAddressNextBit => none
  | .tickSendingAddressDone => none
  | .tickAwaitingSync => none
  | .tickPulseLow => none
  | .tickPulseHigh => none
  | .tauIsmWrite => none
  | .fail _ => none
  | .tauDispatch => none
  | .rx _ => none
  | .tickSd => none
  | .resolve _ => none
  | .tIsOpen => none
  | .tSetBaudRate _ => none
  | .tSetLineState _ => none
  | .tWrite _ => none
  | .tSubscribeRead _ => none
  | .tClose => none

/-- Where a channel's words carry the byte: first at the command port and in a request's SID, at index 4 of a block
(R80, R100). -/
def codeIndex : Channel → Nat
  | .commandPort => 0
  | .inbound => 4
  | .requestSid => 0

/-- A row with fixed bits has words, and they carry those bits where its channel puts them. -/
def Statement (i : Instr) : Prop :=
  ∀ b, tableByte i = some b → ∃ ch bytes, encode i = some (ch, bytes) ∧ bytes[codeIndex ch]? = some b

theorem startInit5Baud (a : Byte) : Statement (.startInit5Baud a) :=
  fun _ h => ⟨_, _, rfl, h⟩

theorem startInitFast (a : Byte) : Statement (.startInitFast a) :=
  fun _ h => ⟨_, _, rfl, h⟩

theorem cancelInit : Statement .cancelInit :=
  fun _ h => ⟨_, _, rfl, h⟩

theorem cancelRequest : Statement .cancelRequest :=
  fun _ h => ⟨_, _, rfl, h⟩

theorem sendService (sid : Byte) (payload : List Byte) : Statement (.sendService sid payload) :=
  fun _ h => ⟨_, _, rfl, h⟩

theorem readDtcs : Statement .readDtcs :=
  fun _ h => ⟨_, _, rfl, h⟩

theorem clearDtcs : Statement .clearDtcs :=
  fun _ h => ⟨_, _, rfl, h⟩

theorem testerPresent : Statement .testerPresent :=
  fun _ h => ⟨_, _, rfl, h⟩

theorem readMemory (address : List Byte) (size : List Byte) : Statement (.readMemory address size) :=
  fun _ h => ⟨_, _, rfl, h⟩

theorem writeMemory (address : List Byte) (data : List Byte) : Statement (.writeMemory address data) :=
  fun _ h => ⟨_, _, rfl, h⟩

theorem checksum (b : List Byte) : Statement (.checksum b) :=
  fun _ h => nomatch h

theorem encode (target : Byte) (source : Byte) (sid : Byte) (payload : List Byte) : Statement (.encode target source sid payload) :=
  fun _ h => nomatch h

theorem decode (b : List Byte) : Statement (.decode b) :=
  fun _ h => nomatch h

theorem dtcDecode (payload : List Byte) : Statement (.dtcDecode payload) :=
  fun _ h => nomatch h

theorem dtcCode (h : Byte) (l : Byte) : Statement (.dtcCode h l) :=
  fun _ h => nomatch h

theorem frame (hdr : Header) (length : Byte) (sid : Byte) (payload : List Byte) (ck : Byte) : Statement (.frame hdr length sid payload ck) :=
  fun _ h => nomatch h

theorem sidReadDtcs : Statement .sidReadDtcs :=
  fun _ h => ⟨_, _, rfl, h⟩

theorem rspReadDtcs (hdr : Header) (payload : List Byte) : Statement (.rspReadDtcs hdr payload) :=
  fun _ h => ⟨_, _, rfl, h⟩

theorem sidTesterPresent : Statement .sidTesterPresent :=
  fun _ h => ⟨_, _, rfl, h⟩

theorem rspTesterPresent (hdr : Header) (payload : List Byte) : Statement (.rspTesterPresent hdr payload) :=
  fun _ h => ⟨_, _, rfl, h⟩

theorem sidStartCommunication : Statement .sidStartCommunication :=
  fun _ h => ⟨_, _, rfl, h⟩

theorem rspStartCommunication (hdr : Header) (payload : List Byte) : Statement (.rspStartCommunication hdr payload) :=
  fun _ h => ⟨_, _, rfl, h⟩

theorem negativeResponse (hdr : Header) (rs : Byte) (ec : Byte) (rest : List Byte) : Statement (.negativeResponse hdr rs ec rest) :=
  fun _ h => ⟨_, _, rfl, h⟩

theorem positiveResponse (hdr : Header) (sid : Byte) (payload : List Byte) : Statement (.positiveResponse hdr sid payload) :=
  fun _ h => nomatch h

theorem tickSendingAddressNextBit : Statement .tickSendingAddressNextBit :=
  fun _ h => nomatch h

theorem tickSendingAddressDone : Statement .tickSendingAddressDone :=
  fun _ h => nomatch h

theorem tickAwaitingSync : Statement .tickAwaitingSync :=
  fun _ h => nomatch h

theorem tickPulseLow : Statement .tickPulseLow :=
  fun _ h => nomatch h

theorem tickPulseHigh : Statement .tickPulseHigh :=
  fun _ h => nomatch h

theorem tauIsmWrite : Statement .tauIsmWrite :=
  fun _ h => nomatch h

theorem fail (reason : FailReason) : Statement (.fail reason) :=
  fun _ h => nomatch h

theorem tauDispatch : Statement .tauDispatch :=
  fun _ h => nomatch h

theorem rx (block : List Byte) : Statement (.rx block) :=
  fun _ h => nomatch h

theorem tickSd : Statement .tickSd :=
  fun _ h => nomatch h

theorem resolve (r : RequestResult) : Statement (.resolve r) :=
  fun _ h => nomatch h

theorem tIsOpen : Statement .tIsOpen :=
  fun _ h => nomatch h

theorem tSetBaudRate (bps : Rate) : Statement (.tSetBaudRate bps) :=
  fun _ h => nomatch h

theorem tSetLineState (low : Bool) : Statement (.tSetLineState low) :=
  fun _ h => nomatch h

theorem tWrite (bytes : List Byte) : Statement (.tWrite bytes) :=
  fun _ h => nomatch h

theorem tSubscribeRead (block : List Byte) : Statement (.tSubscribeRead block) :=
  fun _ h => nomatch h

theorem tClose : Statement .tClose :=
  fun _ h => nomatch h

end Sys2Proof.Laws.TableBits
end

