-- ==== Sys2Proof/Laws/Step.lean ====
section
/-! SUPPORT. What a step can do, said once. -/

namespace Sys2Proof.Machine

/-- What the command port gives is a command (R100). -/
theorem decodeCommand_isCommand {c : Cfg} {bytes : List Byte} {i : Instr} (h : decodeCommand c bytes = .ok i) :
    isCommand i = true := by
  have key : ∀ r, decodeCommandPrefix c bytes = .ok (i, r) → isCommand i = true := by
    intro r hr
    unfold decodeCommandPrefix at hr
    split at hr
    · cases hr
    · next code ops =>
      split_ifs at hr
      case pos =>
        unfold takeByte at hr
        split at hr
        · cases hr; rfl
        · cases hr
      case pos =>
        unfold takeByte at hr
        split at hr
        · cases hr; rfl
        · cases hr
      case pos => cases hr; rfl
      case pos => cases hr; rfl
      case pos =>
        unfold takeSendService at hr
        split at hr
        · split at hr <;> cases hr; rfl
        · cases hr
      all_goals cases hr; rfl
  unfold decodeCommand at h
  split at h
  · next j hp => cases h; exact key _ hp
  · cases h
  · cases h

/-- Fetching changes only what is presented and what is still to come. -/
theorem fetch_frame (s : State) : ∃ p i, (fetch s).2 = { s with presented := p, inputs := i } := by
  unfold fetch
  split
  · split
    · exact ⟨s.presented, s.inputs, rfl⟩
    · exact ⟨none, s.inputs, rfl⟩
  · exact ⟨none, s.inputs, rfl⟩
  · split
    · next now later _ =>
      unfold arbitrate
      split
      · exact ⟨s.presented, _, rfl⟩
      · split
        · exact ⟨s.presented, _, rfl⟩
        · split
          · exact ⟨s.presented, _, rfl⟩
          · split
            · exact ⟨s.presented, _, rfl⟩
            · split
              · exact ⟨s.presented, s.inputs, rfl⟩
              · split
                · exact ⟨s.presented, _, rfl⟩
                · split
                  · exact ⟨s.presented, _, rfl⟩
                  · exact ⟨s.presented, _, rfl⟩
    · split
      · exact ⟨s.presented, s.inputs, rfl⟩
      · exact ⟨s.presented, s.inputs, rfl⟩

/-- No Tick is fetched while an internal action is enabled (R11). -/
theorem fetch_tick (s : State) (h : (fetch s).1 = some .tick) : s.tauEnabled = false := by
  unfold fetch at h
  split at h
  · split at h
    · cases h
    · next hn => simpa using hn
  · next e hne _ => simp only [Option.some.injEq] at h; exact absurd h (by intro h; subst h; simp_all)
  · split at h
    · unfold arbitrate at h
      split at h
      · cases h
      · split at h
        · cases h
        · split at h
          · cases h
          · split at h
            · cases h
            · split at h
              · cases h
              · next hn => simpa using hn
    · split at h <;> cases h

/-- What a step that answers a next state did, from the state `u` that fetching left. -/
inductive StepCase (u t : State) : Prop where
  | same (h : t = u)
  | command (i : Instr) (hi : isCommand i = true) (h : exec i u = .next t)
  | block (b : List Byte) (h : t = receive b u)
  | tick (hn : u.tauEnabled = false) (h : acceptTick u = .next t)
  | ismWrite (hs : u.ismState = .sendingStartComm) (h : writeTx u = .next t)
  | dispatch (he : u.dispatchEnabled = true) (h : t = dispatch u)
  | transportOpen (b : Bool) (h : t = { u with tOpen := b })
  | reset (h : t = resetBlock u)

/-- The one inversion lemma of `step`. -/
theorem step_cases {s t : State} (h : step s = .next t) :
    ∃ p i, StepCase { s with presented := p, inputs := i } t := by
  obtain ⟨p, i, hf⟩ := fetch_frame s
  refine ⟨p, i, ?_⟩
  unfold step at h
  split at h
  · next e u he =>
    have hu : u = { s with presented := p, inputs := i } := by rw [← hf, he]
    have ht : e = .tick → s.tauEnabled = false := fun hh => fetch_tick s (by rw [he, hh])
    rw [← hu]
    cases e with
    | cmd bytes =>
      simp only [accept, acceptCommand] at h
      split at h
      · next c hc => exact .command c (decodeCommand_isCommand hc) h
      · cases h; exact .same rfl
    | rx b =>
      simp only [accept, exec_decodeBlock] at h
      cases h; exact .block b rfl
    | tick =>
      refine .tick ?_ h
      subst hu; exact ht rfl
    | tau =>
      simp only [accept, acceptTau, tauAction] at h
      by_cases h1 : u.ismWriteEnabled = true
      · simp only [h1, if_true, exec, execTauIsmWrite] at h
        exact .ismWrite ((ismWriteEnabled_iff u).1 h1) h
      · by_cases h2 : u.dispatchEnabled = true
        · simp only [h1, h2, if_true, exec, execTauDispatch] at h
          cases h; exact .dispatch h2 rfl
        · simp only [h1, h2] at h
          cases h; exact .same rfl
    | transportOpen b => cases h; exact .transportOpen b rfl
    | reset => cases h; exact .reset rfl
  · next u he =>
    have hu : u = { s with presented := p, inputs := i } := by rw [← hf, he]
    cases h; exact .same hu

/-- A step on a presented event processes it (R10), unless it is a Tick and an internal action is enabled (R11). -/
theorem step_present (e : Event) (s : State) (h : e = .tick → s.tauEnabled = false) :
    step (s.present e) = accept e { s with presented := none } := by
  have hte : (s.present e).tauEnabled = s.tauEnabled := rfl
  cases e with
  | tick => simp [step, fetch, hte, h rfl]
  | _ => rfl

end Sys2Proof.Machine
end

