-- ==== Sys2Proof/Laws/Tick.lean ====
section
/-! SUPPORT. What a presented Tick does, said once for the timed states of the ISM and once for the others. -/

namespace Sys2Proof.Machine

/-- What the expiry of `init_timer` does in the present state (R151). -/
def onExpiry (s : State) : State → State :=
  match s.ismState with
  | .sendingAddress => if s.bitIdx < 9#4 then nextAddressBit else addressDone
  | .awaitingSync => enterReady
  | .pulseLow => pulseLowDone
  | .pulseHigh => pulseHighDone
  | .idle => id
  | .sendingStartComm => id
  | .ready => id
  | .failed => id

/-- In a timed state no internal action is enabled (R26, R176, R210). -/
theorem tauEnabled_of_timed {s : State} (h : timedState s.ismState = true) : s.tauEnabled = false := by
  cases hs : s.ismState <;> rw [hs] at h <;>
    first
    | exact absurd h (by decide)
    | simp [State.tauEnabled, State.ismWriteEnabled, State.dispatchEnabled, State.linkReady, hs]

/-- The ISM's part of a Tick in a timed state (R151). -/
theorem exec_tickHandler (s : State) (h : timedState s.ismState = true) (hb : s.bitIdx ≤ 9#4) :
    ∃ i, tickHandler s = some i ∧ exec i s = .next (tickInit (onExpiry s) s) := by
  cases hs : s.ismState <;> rw [hs] at h <;> try exact absurd h (by decide)
  · by_cases hlt : s.bitIdx < 9#4
    · exact ⟨.tickSendingAddressNextBit, by simp only [tickHandler, hs, if_pos hlt],
        by simp only [exec, execTickSendingAddressNextBit, onExpiry, hs, hlt, and_self, if_true]⟩
    · have h9 : s.bitIdx = 9#4 := by bv_omega
      exact ⟨.tickSendingAddressDone, by simp only [tickHandler, hs, if_neg hlt],
        by simp only [exec, execTickSendingAddressDone, onExpiry, hs, h9, and_self, if_true,
            BitVec.lt_irrefl, if_false]⟩
  · exact ⟨.tickAwaitingSync, by simp only [tickHandler, hs],
      by simp only [exec, execTickAwaitingSync, onExpiry, hs, if_true]⟩
  · exact ⟨.tickPulseLow, by simp only [tickHandler, hs],
      by simp only [exec, execTickPulseLow, onExpiry, hs, if_true]⟩
  · exact ⟨.tickPulseHigh, by simp only [tickHandler, hs],
      by simp only [exec, execTickPulseHigh, onExpiry, hs, if_true]⟩

/-- A Tick in a timed state: the ISM's part, then the SD's (R151, R225). -/
theorem acceptTick_timed (s : State) (h : timedState s.ismState = true) (hb : s.bitIdx ≤ 9#4) :
    acceptTick s = .next (tickDispatcher (tickInit (onExpiry s) s)) := by
  obtain ⟨i, hi, he⟩ := exec_tickHandler s h hb
  simp only [acceptTick, hi]
  rw [he]; rfl

/-- The Tick in the other states is the SD's alone (R151). -/
theorem acceptTick_untimed (s : State) (h : timedState s.ismState = false) :
    acceptTick s = .next (tickDispatcher s) := by
  have : tickHandler s = none := by
    cases hs : s.ismState <;> rw [hs] at h <;>
      first
      | exact absurd h (by decide)
      | simp only [tickHandler, hs]
  simp only [acceptTick, this, exec, execTickSd]

/-- With nothing pending the SD's part of a Tick only counts the guard (R225). -/
theorem tickDispatcher_idle {s : State} (h : s.pendingValid = false) :
    tickDispatcher s = { s with guardTimer := countDown s.guardTimer } := by
  simp only [tickDispatcher, h, Bool.false_eq_true, if_false]

/-- A presented Tick with no internal action enabled is processed (R10, R11). -/
theorem step_tick (s : State) (h : s.tauEnabled = false) :
    step (s.present .tick) = acceptTick { s with presented := none } :=
  step_present .tick s fun _ => h

/-- A timer that counts loses one. -/
theorem toNat_countDown {t : Millis} (h : t ≠ 0#16) : (countDown t).toNat = t.toNat - 1 := by
  rw [countDown_of_ne_zero h]; bv_omega

/-- Runs of ticks compose. -/
theorem ticks_add (a b : Nat) (s : State) : ticks (a + b) s = andThen (ticks a s) (ticks b) := by
  induction a generalizing s with
  | zero => simp only [Nat.zero_add, ticks, andThen]
  | succ a ih =>
    rw [Nat.add_right_comm]
    simp only [ticks]
    cases step (s.present .tick) with
    | next t => exact ih t
    | fault f => rfl
    | refused f => rfl

/-- What the waiting of `k` ticks changes: the event presented and the timers. -/
def waited (s : State) (p : Option Event) (guard init : Millis) : State :=
  { s with presented := p, guardTimer := guard, initTimer := init }

/-- Waiting in a timed state with nothing pending: `init_timer` counts, the guard counts, nothing else (R11). -/
theorem ticks_timed (k : Nat) (s : State) (h : timedState s.ismState = true) (hp : s.pendingValid = false)
    (hb : s.bitIdx ≤ 9#4) (hk : k < s.initTimer.toNat) :
    ∃ p g i, ticks k s = .next (waited s p g i) ∧ i.toNat = s.initTimer.toNat - k := by
  induction k generalizing s with
  | zero => exact ⟨s.presented, s.guardTimer, s.initTimer, rfl, by simp⟩
  | succ k ih =>
    have h0 : s.initTimer ≠ 0#16 := by bv_omega
    have h1 : s.initTimer ≠ 1#16 := by bv_omega
    have hstep : step (s.present .tick) =
        .next (waited s none (countDown s.guardTimer) (countDown s.initTimer)) := by
      rw [step_tick s (tauEnabled_of_timed h), acceptTick_timed { s with presented := none } h hb]
      rcases tickInit_cases (onExpiry { s with presented := none }) { s with presented := none } with
        ⟨he, _⟩ | ⟨_, he⟩
      · exact absurd he h1
      · rw [he, tickDispatcher_idle (by exact hp)]; rfl
    obtain ⟨p, g, i, he, hi⟩ := ih (waited s none (countDown s.guardTimer) (countDown s.initTimer)) h hp hb
      (by show k < (countDown s.initTimer).toNat; rw [toNat_countDown h0]; omega)
    refine ⟨p, g, i, ?_, ?_⟩
    · simp only [ticks, hstep, andThen]; exact he
    · rw [hi]; show (countDown s.initTimer).toNat - k = _; rw [toNat_countDown h0]; omega

/-- A timed state runs its whole length and then does what its expiry does (R11, R151). -/
theorem ticks_timed_whole (s : State) (h : timedState s.ismState = true) (hp : s.pendingValid = false)
    (hb : s.bitIdx ≤ 9#4) (h0 : s.initTimer ≠ 0#16) :
    ∃ g, ticks s.initTimer.toNat s = .next (tickDispatcher (onExpiry s (waited s none g 0#16))) := by
  obtain ⟨p, g, i, he, hi⟩ := ticks_timed (s.initTimer.toNat - 1) s h hp hb (by bv_omega)
  have hn : s.initTimer.toNat = (s.initTimer.toNat - 1) + 1 := by bv_omega
  have hi1 : i = 1#16 := by bv_omega
  refine ⟨g, ?_⟩
  rw [hn, ticks_add, he]
  have hstep : step ((waited s p g i).present .tick) =
      .next (tickDispatcher (onExpiry s (waited s none g 0#16))) := by
    rw [step_tick (waited s p g i) (tauEnabled_of_timed h),
      acceptTick_timed { waited s p g i with presented := none } h hb]
    rcases tickInit_cases (onExpiry { waited s p g i with presented := none })
      { waited s p g i with presented := none } with ⟨_, he⟩ | ⟨hne, _⟩
    · rw [he]; rfl
    · exact absurd hi1 hne
  simp only [andThen, ticks, hstep]

end Sys2Proof.Machine
end

