-- ==== Sys2Proof/Machine/Codes.lean ====
section
/-! DEFINITION. The numeric codes and texts the spec gives to states, modes, errors, reasons and status strings. -/

namespace Sys2Proof.Machine

/-- The 4-bit code of `ism_state` (R21). -/
def ismCode : IsmState → BitVec 4
  | .idle => 0x0#4
  | .sendingAddress => 0x1#4
  | .awaitingSync => 0x2#4
  | .pulseLow => 0x3#4
  | .pulseHigh => 0x4#4
  | .sendingStartComm => 0x5#4
  | .ready => 0x6#4
  | .failed => 0x7#4

/-- The 2-bit code of LinkState (R22). -/
def linkCode : LinkState → BitVec 2
  | .uninitialized => 0#2
  | .synchronizing => 1#2
  | .ready => 2#2
  | .failed => 3#2

/-- The bit of `init_mode` (R23). -/
def initModeCode : InitMode → BitVec 1
  | .fiveBaud => 0#1
  | .fast => 1#1

/-- The bit of `QUEUE_MODE` (R8). -/
def queueModeCode : QueueMode → BitVec 1
  | .fifo => 0#1
  | .reject => 1#1

/-- The 3-bit code of `fail_reason` (R27, R293). -/
def failReasonCode : FailReason → BitVec 3
  | .none => 0#3
  | .transportNotOpen => 1#3
  | .ioSetLineState => 2#3
  | .ioSetBaudRate => 3#3
  | .ioWrite => 4#3
  | .cancelled => 5#3

/-- The number of an error of the taxonomy (R280). -/
def errorCode : KlError → Nat
  | .transportNotOpen => 1
  | .transportIoFailure => 2
  | .invalidPayload => 3
  | .frameTooShort => 4
  | .checksumMismatch => 5
  | .lengthMismatch => 6
  | .negativeResponse _ => 7
  | .responseTimeout => 8
  | .busy => 9
  | .initFailed _ => 10
  | .cancelled => 11

/-- The taxonomy member a reason of `InitFailed` refines (R293); none for `None`. -/
def refinedError : FailReason → Option KlError
  | .none => none
  | .transportNotOpen => some .transportNotOpen
  | .ioSetLineState => some .transportIoFailure
  | .ioSetBaudRate => some .transportIoFailure
  | .ioWrite => some .transportIoFailure
  | .cancelled => some .cancelled

/-- The taxonomy member of a decode error (R280, R285 to R287). -/
def decodeErrError : DecodeErr → KlError
  | .frameTooShort => .frameTooShort
  | .checksumMismatch => .checksumMismatch
  | .lengthMismatch => .lengthMismatch

/-- The text of a status string (R107). -/
def statusText : StatusText → String
  | .startingFiveBaud => "Starting 5-baud init..."
  | .initSuccessful => "K-Line initialization successful"

end Sys2Proof.Machine
end

