-- ==== Sys2Proof/Tests/Slice0.lean ====
section
/-! SUPPORT. Tests: expected results are written from the spec's tables, examples and vectors (V-... of
95_test_vectors.md), never from the model; and a witness for every obligation that has hypotheses. -/

namespace Sys2Proof.Tests

open Sys2Proof Sys2Proof.Machine

/-! ### Test states -/

/-- The values of R8 with the suggested values of the OPEN parameters (R236, R238, R239, D28: no payload to clear, a
3-byte address and a 1-byte size, the data after their count) and a queue of 2 (V-SD-15). -/
def cfg : Cfg :=
  { Cfg.standard with
    queueDepth := 2, sidClearDtc := 0x14#8, sidReadMem := 0x23#8, sidWriteMem := 0x3D#8, clkHz := 1
    memReqPayload :=
      { addressBytes := 3, sizeBytes := 1, clear := [], readBuilder := .layout [.address, .operand]
        writeBuilder := .layout [.address, .countByte 0, .operand] } }

/-- The requests of R235 and R237 under this configuration. -/
def readReq : ServiceRequest := readDtcsRequest cfg
def testerReq : ServiceRequest := testerPresentRequest cfg

/-- After reset, the Transport open, calls answered `ok`. -/
def idle : State :=
  { State.reset with cfg := cfg, tOpen := true, answers := List.replicate 12 true }

/-- After an accepted `START_INIT(0x12)`, in a timed state. -/
def running (st : IsmState) (bit : BitVec 4) (timer : Millis) : State :=
  { idle with ismState := st, ecuAddr := 0x12#8, ecuAddrWritten := true, bitIdx := bit, initTimer := timer }

/-- `Ready` for ECU 0x12, nothing pending (the start state of the V-SD vectors). -/
def ready : State := running .ready 0#4 0#16

/-- The same with a request pending (V-SD-1). -/
def awaiting (sid : Byte) (left : Millis) : State :=
  { ready with pendingValid := true, pendingSid := sid, respTimer := left }

/-- The same with one request in the queue. -/
def waiting (req : ServiceRequest) (guard : Millis) : State :=
  { ready with queue := [req], guardTimer := guard }

/-- The StartCommunication frame of R92 built, not written. -/
def startCommBuilt : State :=
  { loadTx [0x80#8, 0x12#8, 0xF1#8, 0x02#8, 0x81#8, 0x01#8, 0x07#8] (running .sendingStartComm 0#4 0#16) with
    ismState := .sendingStartComm }

def failing (s : State) : State := { s with answers := [false, false] }

/-- The same in `Reject` mode. -/
def rejecting (s : State) : State := { s with cfg := { s.cfg with queueMode := .reject } }

/-- The same with no room for a payload byte. -/
def noRoom (s : State) : State := { s with cfg := { s.cfg with maxPayload := 0#8 } }

def hdr : Header := ⟨0x80#8, 0xF1#8, 0x12#8⟩

/-- The outputs after a meaning that answered a next state. -/
def outs (o : StepOutcome) : Option (List Output) :=
  match o with
  | .next s => some s.outputs
  | _ => none

/-- A field after a meaning that answered a next state. -/
def get {α : Type} (f : State → α) (o : StepOutcome) : Option α :=
  match o with
  | .next s => some (f s)
  | _ => none

/-! ### WellFormed refuses ill-formed terms -/

theorem test_wf_send_service_above_65535 (p : List Byte) (h : p.length = 65536) :
    (Instr.sendService 0#8 p).wf cfg = false := by simp [Instr.wf, h]
theorem test_wf_read_memory_address_width :
    (Instr.readMemory [0x40#8, 0x00#8] [0x10#8]).wf cfg = false := by decide
theorem test_wf_read_memory_size_width :
    (Instr.readMemory [0x00#8, 0x40#8, 0x00#8] []).wf cfg = false := by decide
theorem test_wf_write_memory_address_width :
    (Instr.writeMemory [0x00#8] [0xDE#8]).wf cfg = false := by decide
theorem test_wf_frame_length_byte : (Instr.frame hdr 0x03#8 0x61#8 [0x01#8] 0xE7#8).wf cfg = false := by decide
theorem test_wf_frame_checksum : (Instr.frame hdr 0x02#8 0x61#8 [0x01#8] 0xE8#8).wf cfg = false := by decide
theorem test_wf_frame_named_sid : (Instr.frame hdr 0x01#8 0x7E#8 [] 0x02#8).wf cfg = false := by decide
theorem test_wf_frame_oversized (p : List Byte) (h : p.length = 255) (c : Byte) :
    (Instr.frame hdr 0x00#8 0x61#8 p c).wf cfg = false := by simp [Instr.wf, h]
theorem test_wf_rsp_read_dtcs_oversized (p : List Byte) (h : p.length = 255) :
    (Instr.rspReadDtcs hdr p).wf cfg = false := by simp [Instr.wf, h]
theorem test_wf_rsp_tester_present_oversized (p : List Byte) (h : p.length = 255) :
    (Instr.rspTesterPresent hdr p).wf cfg = false := by simp [Instr.wf, h]
theorem test_wf_rsp_start_communication_oversized (p : List Byte) (h : p.length = 255) :
    (Instr.rspStartCommunication hdr p).wf cfg = false := by simp [Instr.wf, h]
theorem test_wf_negative_response_oversized (p : List Byte) (h : p.length = 253) :
    (Instr.negativeResponse hdr 0#8 0#8 p).wf cfg = false := by simp [Instr.wf, h]
theorem test_wf_positive_response_named_sid : (Instr.positiveResponse hdr 0x7F#8 []).wf cfg = false := by decide
theorem test_wf_positive_response_oversized (p : List Byte) (h : p.length = 255) :
    (Instr.positiveResponse hdr 0x61#8 p).wf cfg = false := by simp [Instr.wf, h]
theorem test_wf_fail_none : (Instr.fail .none).wf cfg = false := by decide
theorem test_wf_resolve_busy : (Instr.resolve (.err .busy)).wf cfg = false := by decide
theorem test_wf_resolve_oversized (p : List Byte) (h : p.length = 255) :
    (Instr.resolve (.response 0x61#8 p none)).wf cfg = false := by simp [Instr.wf, RequestResult.wf, h]
theorem test_wf_rx_of_a_frame :
    (Instr.rx [0x80#8, 0xF1#8, 0x12#8, 0x01#8, 0x7E#8, 0x02#8]).wf cfg = false := by decide
theorem test_cfg_wf_zero_timer : ¬ ({ cfg with tBit := 0#16 } : Cfg).wf := by decide
theorem test_cfg_wf_data_bits : ¬ ({ cfg with nDataBits := 9#4 } : Cfg).wf := by decide
theorem test_cfg_wf_max_payload : ¬ ({ cfg with maxPayload := 255#8 } : Cfg).wf := by decide
theorem test_cfg_wf_no_payload : ¬ ({ cfg with maxPayload := 0#8 } : Cfg).wf := by decide
/-- R8's table. -/
theorem test_cfg_standard :
    Cfg.standard.nDataBits = 8#4 ∧ Cfg.standard.posRespOffset = 0x40#8 ∧ Cfg.standard.negRespSid = 0x7F#8 ∧
      Cfg.standard.sidReadDtc = 0x18#8 ∧ Cfg.standard.sidTesterPresent = 0x3E#8 ∧
      Cfg.standard.sidStartComm = 0x81#8 ∧ Cfg.standard.maxPayload = 254#8 := by decide
theorem test_memory_wf_order : Memory.wf [(3, 0x01#8), (2, 0x01#8)] = false := by decide
theorem test_memory_wf_blank_entry : Memory.wf [(3, 0x00#8)] = false := by decide

/-! ### Decoding, from the tables of R100, R95 and R80 -/

theorem test_decode_start_init_5baud : decodeCommand cfg [0x01#8, 0x33#8] = .ok (.startInit5Baud 0x33#8) := rfl
theorem test_decode_start_init_fast : decodeCommand cfg [0x02#8, 0x12#8] = .ok (.startInitFast 0x12#8) := rfl
theorem test_decode_cancel_init : decodeCommand cfg [0x03#8] = .ok .cancelInit := rfl
theorem test_decode_cancel_request : decodeCommand cfg [0x04#8] = .ok .cancelRequest := rfl
theorem test_decode_send_service :
    decodeCommand cfg [0x10#8, 0x21#8, 0x00#8, 0x01#8, 0x01#8] = .ok (.sendService 0x21#8 [0x01#8]) := by
  simp [decodeCommand, decodeCommandPrefix, takeSendService]
theorem test_decode_send_service_length_high_byte_first :
    decodeCommand cfg [0x10#8, 0x21#8, 0x01#8, 0x00#8, 0x01#8] = .error .truncated := rfl
theorem test_decode_read_dtcs : decodeCommand cfg [0x11#8] = .ok .readDtcs := rfl
theorem test_decode_clear_dtcs : decodeCommand cfg [0x12#8] = .ok .clearDtcs := rfl
theorem test_decode_tester_present : decodeCommand cfg [0x13#8] = .ok .testerPresent := rfl
theorem test_decode_read_memory :
    decodeCommand cfg [0x14#8, 0x00#8, 0x40#8, 0x00#8, 0x10#8] =
      .ok (.readMemory [0x00#8, 0x40#8, 0x00#8] [0x10#8]) := by decide
theorem test_decode_write_memory :
    decodeCommand cfg [0x15#8, 0x00#8, 0x40#8, 0x00#8, 0xDE#8, 0xAD#8] =
      .ok (.writeMemory [0x00#8, 0x40#8, 0x00#8] [0xDE#8, 0xAD#8]) := by decide
theorem test_decode_unknown_code : decodeCommand cfg [0x05#8] = .error (.unknownCode 0x05#8) := rfl
theorem test_decode_trailing : decodeCommand cfg [0x11#8, 0x00#8] = .error .trailing := rfl
theorem test_decode_sid_read_dtcs : decodeRequestSid [0x18#8] = .ok .sidReadDtcs := rfl
theorem test_decode_sid_tester_present : decodeRequestSid [0x3E#8] = .ok .sidTesterPresent := rfl
theorem test_decode_sid_start_communication : decodeRequestSid [0x81#8] = .ok .sidStartCommunication := rfl

/-- P2: `80 F1 12 03 61 01 AB 93`, awaited. -/
theorem test_decode_positive_response :
    decodeBlock (some 0x61#8) [0x80#8, 0xF1#8, 0x12#8, 0x03#8, 0x61#8, 0x01#8, 0xAB#8, 0x93#8] =
      .positiveResponse hdr 0x61#8 [0x01#8, 0xAB#8] := by decide
/-- The same, not awaited. -/
theorem test_decode_frame :
    decodeBlock none [0x80#8, 0xF1#8, 0x12#8, 0x03#8, 0x61#8, 0x01#8, 0xAB#8, 0x93#8] =
      .frame hdr 0x03#8 0x61#8 [0x01#8, 0xAB#8] 0x93#8 := by decide
/-- V-FC-19. -/
theorem test_decode_rsp_read_dtcs :
    decodeBlock none
        [0x80#8, 0xF1#8, 0x12#8, 0x05#8, 0x58#8, 0x01#8, 0x01#8, 0x00#8, 0x08#8, 0xEA#8] =
      .rspReadDtcs hdr [0x01#8, 0x01#8, 0x00#8, 0x08#8] := by decide
/-- V-FC-36. -/
theorem test_decode_rsp_tester_present :
    decodeBlock none [0x80#8, 0xF1#8, 0x12#8, 0x01#8, 0x7E#8, 0x02#8] = .rspTesterPresent hdr [] := by decide
/-- V-FC-42. -/
theorem test_decode_rsp_start_communication :
    decodeBlock none [0x80#8, 0xF1#8, 0x12#8, 0x03#8, 0xC1#8, 0xEA#8, 0x8F#8, 0xC0#8] =
      .rspStartCommunication hdr [0xEA#8, 0x8F#8] := by decide
/-- V-FC-39: the third payload byte is kept in the row and ignored by `DECODE`. -/
theorem test_decode_negative_response :
    decodeBlock none [0x80#8, 0xF1#8, 0x12#8, 0x04#8, 0x7F#8, 0x18#8, 0x11#8, 0x99#8, 0xC8#8] =
      .negativeResponse hdr 0x18#8 0x11#8 [0x99#8] := by decide
/-- V-FC-47: no frame. -/
theorem test_decode_rx : decodeBlock none [0x55#8, 0xEF#8, 0x8F#8] = .rx [0x55#8, 0xEF#8, 0x8F#8] := by decide

/-- The words of the table with fixed bits: 0x18 and 0x7F are SIDs, 0x11 is a command code. -/
theorem test_table_words :
    decodeTableWord 8 0x18 = some .sidReadDtcs ∧ decodeTableWord 8 0x11 = some .readDtcs ∧
      decodeTableWord 8 0x7F = some (.negativeResponse ⟨0#8, 0#8, 0#8⟩ 0#8 0#8 []) ∧
      decodeTableWord 16 0x3302 = some (.startInitFast 0x33#8) ∧ decodeTableWord 8 0x05 = none := by decide

/-- The first instruction after reset: `CANCEL_INIT` has nothing to cancel (V-RST-1). -/
theorem test_first_step_cancel_init :
    outs (step (State.reset.withFetchWord 8 0x03)) = some [.ack .noEffect] := by decide

/-! ### The codes the spec gives -/

/-- R21, R22. -/
theorem test_codes_of_states :
    ismCode .sendingStartComm = 0x5#4 ∧ ismCode .failed = 0x7#4 ∧ linkCode (linkOf .pulseHigh) = 1#2 ∧
      linkCode (linkOf .idle) = 0#2 ∧ initModeCode .fast = 1#1 ∧ queueModeCode .reject = 1#1 := by decide
/-- R27, R280, R293. -/
theorem test_codes_of_errors :
    failReasonCode .ioWrite = 4#3 ∧ errorCode .busy = 9 ∧ errorCode (decodeErrError .lengthMismatch) = 6 ∧
      refinedError .ioSetBaudRate = some .transportIoFailure := by decide
/-- R107. -/
theorem test_status_text : statusText .startingFiveBaud = "Starting 5-baud init..." := rfl

/-! ### Pure functions -/

/-- V-FC-14. -/
theorem test_checksum : get State.unitOut (exec (.checksum (List.replicate 256 0x01#8)) idle) =
    some (some (.checksum 0x00#8)) := by decide +kernel
/-- V-FC-10. -/
theorem test_encode : get State.unitOut (exec (.encode 0x12#8 0xF1#8 0x7F#8 [0x18#8, 0x11#8]) idle) =
    some (some (.encoded
      (.frame [0x80#8, 0x12#8, 0xF1#8, 0x03#8, 0x7F#8, 0x18#8, 0x11#8, 0x2E#8]))) := by decide
/-- V-FC-9. -/
theorem test_encode_oversized :
    get State.unitOut (exec (.encode 0x12#8 0xF1#8 0x18#8 (List.replicate 255 0x00#8)) idle) =
      some (some (.encoded .invalidPayload)) := by decide +kernel
/-- V-FC-21: checksum good, length byte wrong. -/
theorem test_decode_length : get State.unitOut
      (exec (.decode [0x80#8, 0xF1#8, 0x12#8, 0x04#8, 0x58#8, 0x01#8, 0x01#8, 0x00#8, 0x08#8, 0xE9#8]) idle) =
    some (some (.decoded (.error .lengthMismatch))) := by decide
/-- V-FC-38: a short negative response. -/
theorem test_decode_short_negative : get State.unitOut
      (exec (.decode [0x80#8, 0xF1#8, 0x12#8, 0x02#8, 0x7F#8, 0x18#8, 0x1C#8]) idle) =
    some (some (.decoded (.error .frameTooShort))) := by decide
/-- V-DD-9: `P0100` and `C0321`. -/
theorem test_dtc_decode :
    get State.unitOut (exec (.dtcDecode [0x02#8, 0x01#8, 0x00#8, 0x08#8, 0x43#8, 0x21#8, 0x20#8]) idle) =
      some (some (.dtcs [⟨⟨0x50#8, 0x30#8, 0x31#8, 0x30#8, 0x30#8⟩, 0x08#8⟩,
        ⟨⟨0x43#8, 0x30#8, 0x33#8, 0x32#8, 0x31#8⟩, 0x20#8⟩])) := by decide
/-- V-DD-11: groups missing. -/
theorem test_dtc_decode_short :
    get State.unitOut (exec (.dtcDecode [0x02#8, 0x01#8, 0x00#8, 0x08#8]) idle) = some (some (.dtcs [])) := by decide
/-- V-DD-4: `U01AB`. -/
theorem test_dtc_code : get State.unitOut (exec (.dtcCode 0xC1#8 0xAB#8) idle) =
    some (some (.code ⟨0x55#8, 0x30#8, 0x31#8, 0x41#8, 0x42#8⟩)) := by decide

/-! ### Initialization -/

/-- R153's example. -/
theorem test_start_init_5baud :
    outs (exec (.startInit5Baud 0x12#8) idle) =
      some [.call (.isOpen true), .ack .ok, .notify .synchronizing, .status .startingFiveBaud,
        .call (.setLineState true true)] ∧
    get (fun s => (s.ismState, s.bitIdx, s.initTimer, s.ecuAddr)) (exec (.startInit5Baud 0x12#8) idle) =
      some (.sendingAddress, 0#4, 200#16, 0x12#8) := by decide
/-- V-ISM-6. -/
theorem test_start_init_5baud_closed :
    outs (exec (.startInit5Baud 0x12#8) { idle with tOpen := false }) =
      some [.call (.isOpen false), .ack (.err .transportNotOpen), .notify (.failed .transportNotOpen)] := by decide
/-- R160's example. -/
theorem test_start_init_fast :
    get (fun s => (s.ismState, s.initTimer, s.tLineLow, s.initMode)) (exec (.startInitFast 0x12#8) idle) =
      some (.pulseLow, 25#16, true, .fast) := by decide
/-- V-ISM-7. -/
theorem test_start_init_fast_busy :
    outs (exec (.startInitFast 0x33#8) (running .sendingAddress 4#4 150#16)) = some [.ack (.err .busy)] := by decide
/-- R180's example. -/
theorem test_cancel_init :
    outs (exec .cancelInit (running .sendingAddress 4#4 150#16)) =
      some [.ack .ok, .call (.setBaudRate 10400#32 true), .call (.setLineState false true),
        .notify (.failed .cancelled)] ∧
    get (fun s => (s.ismState, s.failReason, s.initTimer, s.bitIdx))
        (exec .cancelInit (running .sendingAddress 4#4 150#16)) =
      some (.failed, .cancelled, 0#16, 4#4) := by decide
/-- R155's example: the bit sent is that of the new index. -/
theorem test_tick_next_bit :
    get (fun s => (s.bitIdx, s.initTimer, s.outputs))
        (exec .tickSendingAddressNextBit (running .sendingAddress 1#4 1#16)) =
      some (2#4, 200#16, [.call (.setLineState false true)]) := by decide
/-- V-ISM-5: the call at tick 1000 fails. -/
theorem test_tick_next_bit_fails :
    get (fun s => (s.ismState, s.bitIdx, s.initTimer, s.outputs))
        (exec .tickSendingAddressNextBit (failing (running .sendingAddress 4#4 1#16))) =
      some (.failed, 5#4, 0#16, [.call (.setLineState false false), .notify (.failed .ioSetLineState)]) := by decide
/-- R156's example. -/
theorem test_tick_address_done :
    get (fun s => (s.ismState, s.initTimer, s.tBaud, s.outputs))
        (exec .tickSendingAddressDone (running .sendingAddress 9#4 1#16)) =
      some (.awaitingSync, 25#16, 10400#32, [.call (.setBaudRate 10400#32 true)]) := by decide
/-- R157's example. -/
theorem test_tick_awaiting_sync :
    get (fun s => (s.ismState, s.outputs)) (exec .tickAwaitingSync (running .awaitingSync 9#4 1#16)) =
      some (.ready, [.notify .ready, .status .initSuccessful]) := by decide
/-- R161's example. -/
theorem test_tick_pulse_low :
    get (fun s => (s.ismState, s.initTimer, s.tLineLow)) (exec .tickPulseLow (running .pulseLow 0#4 1#16)) =
      some (.pulseHigh, 25#16, false) := by decide
/-- R162's example. -/
theorem test_tick_pulse_high :
    get (fun s => (s.ismState, s.txLen, s.txBytes)) (exec .tickPulseHigh (running .pulseHigh 0#4 1#16)) =
      some (.sendingStartComm, 7#9, [0x80#8, 0x12#8, 0xF1#8, 0x02#8, 0x81#8, 0x01#8, 0x07#8]) := by decide
/-- R176's example. -/
theorem test_tau_ism_write :
    get (fun s => (s.ismState, s.txLen, s.outputs)) (exec .tauIsmWrite startCommBuilt) =
      some (.ready, 0#9, [.call (.write [0x80#8, 0x12#8, 0xF1#8, 0x02#8, 0x81#8, 0x01#8, 0x07#8] true),
        .notify .ready, .status .initSuccessful]) := by decide
/-- V-ISM-4, call 5. -/
theorem test_sid_start_communication_fails :
    get (fun s => (s.ismState, s.failReason, s.txLen)) (exec .sidStartCommunication (failing startCommBuilt)) =
      some (.failed, .ioWrite, 0#9) := by decide
/-- R159. -/
theorem test_fail :
    get (fun s => (s.ismState, s.failReason, s.initTimer, s.outputs))
        (exec (.fail .ioSetLineState) (running .pulseLow 0#4 1#16)) =
      some (.failed, .ioSetLineState, 0#16, [.notify (.failed .ioSetLineState)]) := by decide

/-! ### Requests -/

/-- R201's example. -/
theorem test_send_service :
    get (fun s => (s.queue, s.outputs)) (exec (.sendService 0x18#8 []) ready) =
      some ([⟨0x18#8, [], true⟩], [.ack .ok]) := by decide
/-- V-SD-11. -/
theorem test_send_service_oversized :
    outs (exec (.sendService 0x18#8 (List.replicate 255 0x00#8)) idle) = some [.ack (.err .invalidPayload)] := by
  decide +kernel
/-- V-SD-12. -/
theorem test_read_dtcs_in_idle : outs (exec .readDtcs idle) = some [.ack (.err .busy)] := by decide
/-- V-SD-15: a full queue. -/
theorem test_read_dtcs_queue_full :
    outs (exec .readDtcs { ready with queue := [readReq, readReq] }) = some [.ack (.err .busy)] := by
  decide
/-- R236, with the suggested SID and payload. -/
theorem test_clear_dtcs : get State.queue (exec .clearDtcs ready) = some [⟨0x14#8, [], true⟩] := by decide
/-- R237, R201 line 5. -/
theorem test_tester_present :
    get State.queue (exec .testerPresent ready) = some [⟨0x3E#8, [], false⟩] := by decide
/-- R238's example: the payload of `80 12 F1 05 23 00 40 00 10 FB`. -/
theorem test_read_memory : get State.queue (exec (.readMemory [0x00#8, 0x40#8, 0x00#8] [0x10#8]) ready) =
    some [⟨0x23#8, [0x00#8, 0x40#8, 0x00#8, 0x10#8], true⟩] := by decide
/-- D28: an address of two bytes has not the width this configuration fixes. -/
theorem test_read_memory_other_width :
    get State.queue (exec (.readMemory [0x40#8, 0x00#8] [0x10#8]) ready) = some [] := by decide
/-- R239's example: the payload of `80 12 F1 07 3D 00 40 00 02 DE AD 94`. -/
theorem test_write_memory : get State.queue (exec (.writeMemory [0x00#8, 0x40#8, 0x00#8] [0xDE#8, 0xAD#8]) ready) =
    some [⟨0x3D#8, [0x00#8, 0x40#8, 0x00#8, 0x02#8, 0xDE#8, 0xAD#8], true⟩] := by decide
/-- R243, N6: a builder may give the address low byte first, and one pair of operands a payload of its own. -/
theorem test_payload_builder :
    (PayloadBuilder.override [] [] [0x07#8] (.layout [.addressByte 1, .addressByte 0, .operandByte 0])).build
      [0x40#8, 0x01#8] [0x10#8, 0x11#8] = [0x01#8, 0x40#8, 0x10#8] := by decide
/-- V-SD-1. -/
theorem test_tau_dispatch :
    get (fun s => (s.pendingValid, s.pendingSid, s.respTimer, s.queue, s.txLen))
        (exec .tauDispatch (waiting readReq 0#16)) = some (true, 0x18#8, 1000#16, [], 0#9) ∧
    outs (exec .tauDispatch (waiting readReq 0#16)) =
      some [.call (.write [0x80#8, 0x12#8, 0xF1#8, 0x01#8, 0x18#8, 0x9C#8] true)] := by decide
/-- V-SD-17. -/
theorem test_tau_dispatch_fails :
    get (fun s => (s.outputs, s.ismState, s.guardTimer)) (exec .tauDispatch (failing (waiting readReq 0#16))) =
      some ([.call (.write [0x80#8, 0x12#8, 0xF1#8, 0x01#8, 0x18#8, 0x9C#8] false),
        .result (.err .transportIoFailure), .reinitRequest], .ready, 55#16) := by decide
/-- V-SD-9. -/
theorem test_sid_tester_present :
    get (fun s => (s.outputs, s.pendingValid, s.guardTimer))
        (exec .sidTesterPresent (waiting testerReq 0#16)) =
      some ([.call (.write [0x80#8, 0x12#8, 0xF1#8, 0x01#8, 0x3E#8, 0xC2#8] true), .result .sent], false, 55#16) := by
  decide
/-- R235. -/
theorem test_sid_read_dtcs :
    get State.pendingSid (exec .sidReadDtcs (waiting readReq 0#16)) = some 0x18#8 := by decide
/-- V-SD-2. -/
theorem test_rsp_read_dtcs :
    get (fun s => (s.pendingValid, s.guardTimer, s.outputs))
        (exec (.rspReadDtcs hdr [0x01#8, 0x01#8, 0x00#8, 0x08#8]) (awaiting 0x18#8 900#16)) =
      some (false, 55#16,
        [.rawRx [0x80#8, 0xF1#8, 0x12#8, 0x05#8, 0x58#8, 0x01#8, 0x01#8, 0x00#8, 0x08#8, 0xEA#8],
          .result (.response 0x58#8 [0x01#8, 0x01#8, 0x00#8, 0x08#8]
            (some [⟨⟨0x50#8, 0x30#8, 0x31#8, 0x30#8, 0x30#8⟩, 0x08#8⟩]))]) := by decide
/-- V-SD-7. -/
theorem test_rsp_tester_present :
    get (fun s => (s.pendingValid, s.respTimer, s.outputs)) (exec (.rspTesterPresent hdr []) (awaiting 0x18#8 900#16)) =
      some (true, 900#16, [.rawRx [0x80#8, 0xF1#8, 0x12#8, 0x01#8, 0x7E#8, 0x02#8], .log .unmatched]) := by decide
/-- P3, t = 60. -/
theorem test_rsp_start_communication :
    outs (exec (.rspStartCommunication hdr [0xEA#8, 0x8F#8]) (awaiting 0x18#8 990#16)) =
      some [.rawRx [0x80#8, 0xF1#8, 0x12#8, 0x03#8, 0xC1#8, 0xEA#8, 0x8F#8, 0xC0#8], .log .unmatched] := by decide
/-- V-SD-21: a negative response naming another SID resolves what is pending. -/
theorem test_negative_response :
    outs (exec (.negativeResponse hdr 0x3E#8 0x11#8 []) (awaiting 0x18#8 997#16)) =
      some [.rawRx [0x80#8, 0xF1#8, 0x12#8, 0x03#8, 0x7F#8, 0x3E#8, 0x11#8, 0x54#8],
        .result (.negative 0x3E#8 0x11#8)] := by decide
/-- V-SD-24. -/
theorem test_positive_response :
    outs (exec (.positiveResponse hdr 0x61#8 [0x01#8, 0xAB#8]) (awaiting 0x21#8 900#16)) =
      some [.rawRx [0x80#8, 0xF1#8, 0x12#8, 0x03#8, 0x61#8, 0x01#8, 0xAB#8, 0x93#8],
        .result (.response 0x61#8 [0x01#8, 0xAB#8] none)] := by decide
/-- V-SD-18: 0xC0 + 0x40 = 0x00 modulo 256. -/
theorem test_frame :
    outs (exec (.frame hdr 0x01#8 0x00#8 [] 0x84#8) (awaiting 0xC0#8 900#16)) =
      some [.rawRx [0x80#8, 0xF1#8, 0x12#8, 0x01#8, 0x00#8, 0x84#8], .result (.response 0x00#8 [] none)] := by decide
/-- V-SD-6. -/
theorem test_rx_truncated :
    get (fun s => (s.pendingValid, s.outputs))
        (exec (.rx [0x80#8, 0xF1#8, 0x12#8, 0x05#8, 0x58#8, 0x01#8, 0x01#8, 0x00#8]) (awaiting 0x18#8 900#16)) =
      some (true, [.rawRx [0x80#8, 0xF1#8, 0x12#8, 0x05#8, 0x58#8, 0x01#8, 0x01#8, 0x00#8],
        .log (.decodeError .checksumMismatch)]) := by decide
/-- V-SD-5: the echo of the request. -/
theorem test_rx_echo :
    get (fun s => (s.pendingValid, s.outputs))
        (exec (.rx [0x80#8, 0x12#8, 0xF1#8, 0x01#8, 0x18#8, 0x9C#8]) (awaiting 0x18#8 900#16)) =
      some (true, [.rawRx [0x80#8, 0x12#8, 0xF1#8, 0x01#8, 0x18#8, 0x9C#8], .log .unmatched]) := by decide
/-- R225's example. -/
theorem test_tick_sd :
    get (fun s => (s.pendingValid, s.guardTimer, s.outputs)) (exec .tickSd (awaiting 0x18#8 1#16)) =
      some (false, 55#16, [.result (.err .responseTimeout)]) := by decide
/-- R227's example. -/
theorem test_resolve :
    get (fun s => (s.pendingValid, s.respTimer, s.guardTimer)) (exec (.resolve (.err .responseTimeout))
      (awaiting 0x18#8 7#16)) = some (false, 0#16, 55#16) := by decide
/-- V-SD-16. -/
theorem test_cancel_request :
    get (fun s => (s.outputs, s.guardTimer)) (exec .cancelRequest (awaiting 0x18#8 900#16)) =
      some ([.ack .ok, .result (.err .cancelled)], 55#16) := by decide

/-! ### The Transport and the step -/

/-- R311, R316. -/
theorem test_transport_is_open_after_close :
    get (fun s => outs (exec .tIsOpen s)) (exec .tClose idle) =
      some (some [.call .close, .call (.isOpen false)]) := by decide
/-- R312. -/
theorem test_transport_set_baud_rate :
    get State.tBaud (exec (.tSetBaudRate 10400#32) idle) = some 10400#32 := by decide
/-- R313. -/
theorem test_transport_set_line_state : get State.tLineLow (exec (.tSetLineState true) idle) = some true := by decide
/-- R314. -/
theorem test_transport_write :
    outs (exec (.tWrite [0x01#8]) idle) = some [.call (.write [0x01#8] true)] := by decide
/-- R13, U2: the bit is the environment's also when the Transport is closed. -/
theorem test_transport_write_closed :
    outs (exec (.tWrite [0x01#8]) { idle with tOpen := false }) = some [.call (.write [0x01#8] true)] := by decide
/-- R315, R218: a delivered block is handled by the next step. -/
theorem test_transport_subscribe_read :
    get (fun s => outs (step s)) (exec (.tSubscribeRead [0xFF#8]) idle) =
      some (some [.rawRx [0xFF#8], .log (.decodeError .frameTooShort)]) := by decide
/-- V-SD-22: in the same instant the response goes before the Tick. -/
theorem test_step_response_before_tick :
    outs (step { awaiting 0x21#8 1#16 with
        inputs := [{ rx := [[0x80#8, 0xF1#8, 0x12#8, 0x03#8, 0x61#8, 0x01#8, 0xAB#8, 0x93#8]], tick := true }] }) =
      some [.rawRx [0x80#8, 0xF1#8, 0x12#8, 0x03#8, 0x61#8, 0x01#8, 0xAB#8, 0x93#8],
        .result (.response 0x61#8 [0x01#8, 0xAB#8] none)] := by decide
/-- R225: one Tick counts the ISM's timer and the guard (V-ISM-7). -/
theorem test_step_tick_counts_both :
    get (fun s => (s.initTimer, s.guardTimer))
        (step (State.present .tick { running .pulseLow 0#4 25#16 with guardTimer := 55#16 })) =
      some (24#16, 54#16) := by decide
/-- R319: bytes that are no command change nothing (log 15). -/
theorem test_step_malformed_command :
    get (fun s => (s.queue, s.outputs)) (step (State.present (.cmd [0x11#8, 0x00#8]) ready)) = some ([], []) ∧
    get (fun s => (s.ismState, s.outputs)) (step (State.present (.cmd [0x01#8]) idle)) = some (.idle, []) := by decide
/-- R330: nothing pending survives a reset, and it makes no output. -/
theorem test_step_reset :
    get (fun s => (s.ismState, s.pendingValid, s.outputs)) (step (State.present .reset (awaiting 0x18#8 9#16))) =
      some (.idle, false, []) := by decide

/-! ### Witnesses: states and operands that meet the hypotheses of each obligation, clause by clause -/

/-- The invariant at a concrete state: every clause is decided. -/
theorem inv_idle : Inv idle :=
  ⟨by decide, ⟨by decide, by decide, by decide, by decide, by decide, by decide, by decide, by decide, by decide,
    by decide⟩, ⟨by decide, by decide, by decide, by decide, by decide⟩⟩
theorem inv_pulse_low : Inv (running .pulseLow 0#4 25#16) :=
  ⟨by decide, ⟨by decide, by decide, by decide, by decide, by decide, by decide, by decide, by decide, by decide,
    by decide⟩, ⟨by decide, by decide, by decide, by decide, by decide⟩⟩
theorem inv_awaiting : Inv (awaiting 0x18#8 1000#16) :=
  ⟨by decide, ⟨by decide, by decide, by decide, by decide, by decide, by decide, by decide, by decide, by decide,
    by decide⟩, ⟨by decide, by decide, by decide, by decide, by decide⟩⟩
theorem inv_waiting : Inv (waiting readReq 55#16) :=
  ⟨by decide, ⟨by decide, by decide, by decide, by decide, by decide, by decide, by decide, by decide, by decide,
    by decide⟩, ⟨by decide, by decide, by decide, by decide, by decide⟩⟩
theorem inv_start_comm_built : Inv startCommBuilt :=
  ⟨by decide, ⟨by decide, by decide, by decide, by decide, by decide, by decide, by decide, by decide, by decide,
    by decide⟩, ⟨by decide, by decide, by decide, by decide, by decide⟩⟩

theorem witness_CommandDecodesFromItsBytes :
    (Instr.sendService 0x21#8 [0x01#8]).wf cfg = true ∧
    encode (.sendService 0x21#8 [0x01#8]) = some (.commandPort, [0x10#8, 0x21#8, 0x00#8, 0x01#8, 0x01#8]) ∧
    encode .sidReadDtcs = some (.requestSid, [0x18#8]) := by decide
theorem witness_CommandBytesAreUnique :
    decodeCommand cfg [0x01#8, 0x00#8] = .ok (.startInit5Baud 0x00#8) ∧
    decodeRequestSid [0x81#8] = .ok .sidStartCommunication := ⟨rfl, rfl⟩
theorem witness_InboundRowDecodesFromItsBytes :
    (Instr.positiveResponse hdr 0x61#8 []).wf cfg = true ∧
    encode (.positiveResponse hdr 0x61#8 []) =
      some (.inbound, [0x80#8, 0xF1#8, 0x12#8, 0x01#8, 0x61#8, 0xE5#8]) ∧
    (∀ h sid p, Instr.positiveResponse hdr 0x61#8 [] = .positiveResponse h sid p → some 0x61#8 = some sid) ∧
    (∀ h l sid p c, Instr.positiveResponse hdr 0x61#8 [] = .frame h l sid p c → some 0x61#8 ≠ some sid) :=
  ⟨by decide, by decide, fun _ _ _ h => by cases h; rfl, fun _ _ _ _ _ h => nomatch h⟩
theorem witness_InboundRowDecodesFromItsBytes_frame :
    (Instr.frame hdr 0x01#8 0x61#8 [] 0xE5#8).wf cfg = true ∧
    (∀ h l sid p c, Instr.frame hdr 0x01#8 0x61#8 [] 0xE5#8 = .frame h l sid p c → (none : Option Byte) ≠ some sid) :=
  ⟨by decide, fun _ _ _ _ _ h => by cases h; simp⟩
theorem witness_StepRunsTheDecodedInstruction :
    decodeCommand cfg [0x03#8] = .ok .cancelInit ∧ startCommBuilt.ismState = .sendingStartComm ∧
    ready.ismState ≠ .sendingStartComm ∧
    ((running .pulseLow 0#4 1#16).tauEnabled = false ∧
      tickHandler (running .pulseLow 0#4 1#16) = some .tickPulseLow) ∧
    (idle.tauEnabled = false ∧ tickHandler idle = none) := by decide
theorem witness_PlacedTableWordRuns :
    decodeTableWordFor cfg 8 0x14 = some (.readMemory [0x00#8, 0x00#8, 0x00#8] [0x00#8]) ∧
    decodeTableWord 8 0x81 = some .sidStartCommunication := by decide
theorem witness_UnknownCommandCodeIsIgnored :
    (0x00#8 : Byte) ∉ [0x01#8, 0x02#8, 0x03#8, 0x04#8, 0x10#8, 0x11#8, 0x12#8, 0x13#8, 0x14#8, 0x15#8] ∧
    (0x16#8 : Byte) ∉ [0x01#8, 0x02#8, 0x03#8, 0x04#8, 0x10#8, 0x11#8, 0x12#8, 0x13#8, 0x14#8, 0x15#8] ∧
    decodeCommand cfg [] = .error .empty ∧ decodeCommand cfg [0x01#8] = .error .truncated ∧
    decodeCommand cfg [0x03#8, 0x00#8] = .error .trailing ∧
    [0x00#8, 0x40#8, 0x00#8].length ≠ cfg.memReqPayload.addressBytes + cfg.memReqPayload.sizeBytes ∧
    [0x00#8, 0x40#8].length < cfg.memReqPayload.addressBytes := by decide
theorem witness_TickWaitsForInternalActions :
    (startCommBuilt.present .tick).tauEnabled = true ∧ startCommBuilt.ismState = .sendingStartComm ∧
    ((waiting readReq 0#16).present .tick).tauEnabled = true ∧
    (waiting readReq 0#16).ismState ≠ .sendingStartComm := by decide
/-- A cancel ready; a block ready; an action enabled; a Tick ready; another command ready. -/
theorem witness_SimultaneousEventsInFixedOrder :
    ([[0x11#8], [0x03#8]] : List (List Byte)).find? (isCancel cfg) = some [0x03#8] ∧
    ([[0x11#8]] : List (List Byte)).find? (isCancel cfg) = none ∧
    ({ waiting readReq 0#16 with inputs := [{ tick := true }] } : State).tauEnabled = true ∧
    ({ idle with inputs := [{ cmds := [[0x11#8]] }] } : State).tauEnabled = false ∧
    ({ idle with inputs := [{ cmds := [[0x11#8]] }] } : State).presented = none := by decide
theorem witness_DecodeUndoesEncode :
    (List.replicate 254 0xFF#8 : List Byte).length ≤ cfg.maxPayload.toNat ∧ cfg.maxPayload.toNat ≤ 254 ∧
    (0x18#8 : Byte) ≠ cfg.negRespSid ∧ (0x7F#8 : Byte) = cfg.negRespSid ∧
    ([0x18#8, 0x11#8] : List Byte) = 0x18#8 :: 0x11#8 :: [] ∧ ([0x18#8] : List Byte).length < 2 := by decide +kernel
theorem witness_SingleByteCorruptionIsDetected :
    encodeFrame cfg 0x12#8 0xF1#8 0x18#8 [] = .frame [0x80#8, 0x12#8, 0xF1#8, 0x01#8, 0x18#8, 0x9C#8] ∧
    3 < [0x80#8, 0x12#8, 0xF1#8, 0x01#8, 0x18#8, 0x9C#8].length ∧ 0x00#8 ≠ 0x01#8 := by decide
/-- A block whose last byte is its checksum. -/
def goodSum (b : List Byte) : Prop := b.getLast? = some (checksumOf b.dropLast)
/-- V-FC-26, V-FC-27, V-FC-28, and a block of 261 bytes. -/
theorem witness_DecodeChecksInOrder :
    [0x80#8, 0xF1#8, 0x12#8, 0x01#8].length < 5 ∧
    [0x80#8, 0xF1#8, 0x12#8, 0x00#8, 0x03#8].getLast? ≠
      some (checksumOf [0x80#8, 0xF1#8, 0x12#8, 0x00#8, 0x03#8].dropLast) ∧
    goodSum [0x80#8, 0xF1#8, 0x12#8, 0x00#8, 0x83#8] ∧ goodSum (List.replicate 261 0x00#8) := by
  unfold goodSum; decide +kernel
/-- V-FC-21 (line 4), V-FC-38 (line 7), V-FC-37 (line 8), V-FC-36 (line 9). -/
theorem witness_DecodeChecksInOrder_lines_4_to_9 :
    (goodSum [0x80#8, 0xF1#8, 0x12#8, 0x04#8, 0x58#8, 0x01#8, 0x01#8, 0x00#8, 0x08#8, 0xE9#8] ∧
      (0x04#8 : Byte).toNat ≠ 10 - 5) ∧
    (goodSum [0x80#8, 0xF1#8, 0x12#8, 0x02#8, 0x7F#8, 0x18#8, 0x1C#8] ∧ (0x02#8 : Byte).toNat = 7 - 5) ∧
    (goodSum [0x80#8, 0xF1#8, 0x12#8, 0x03#8, 0x7F#8, 0x18#8, 0x11#8, 0x2E#8] ∧ (0x03#8 : Byte).toNat = 8 - 5) ∧
    (goodSum [0x80#8, 0xF1#8, 0x12#8, 0x01#8, 0x7E#8, 0x02#8] ∧ (0x01#8 : Byte).toNat = 6 - 5) := by
  unfold goodSum; decide
theorem witness_EncodeUnit :
    cfg.maxPayload.toNat < (List.replicate 255 0#8 : List Byte).length ∧
    (List.replicate 254 0#8 : List Byte).length ≤ cfg.maxPayload.toNat := by decide +kernel
/-- V-DD-13, V-DD-11, V-DD-8 (all groups there and no byte more). -/
theorem witness_DtcDecodeUnit :
    ([0x02#8, 0x01#8, 0x00#8, 0x08#8] : List Byte).length < 1 + 3 * (0x02#8).toNat ∧
    1 + 3 * (0x01#8).toNat ≤ ([0x01#8, 0x01#8, 0x00#8, 0x08#8] : List Byte).length ∧ 0 < (0x01#8).toNat := by decide
/-- Busy by the link, by a pending request, by the queue; not open. -/
theorem witness_StartInitRefusedOrNotOpen :
    (running .pulseLow 0#4 1#16).linkState = .synchronizing ∧ (awaiting 0x18#8 1#16).pendingValid = true ∧
    (waiting readReq 55#16).queue ≠ [] ∧
    (State.reset.linkState ≠ .synchronizing ∧ State.reset.pendingValid = false ∧ State.reset.queue = [] ∧
      State.reset.tOpen = false) := by decide
theorem witness_StartInit5BaudBeginsTheStartBit :
    idle.linkState ≠ .synchronizing ∧ idle.pendingValid = false ∧ idle.queue = [] ∧ idle.tOpen = true ∧
    idle.answer = true ∧ (failing idle).answer = false := by decide
theorem witness_StartInitFastBeginsTheLowPulse :
    ready.linkState ≠ .synchronizing ∧ ready.pendingValid = false ∧ ready.queue = [] ∧ ready.tOpen = true ∧
    ready.answer = true ∧ (failing ready).answer = false := by decide
theorem witness_CancelInitCleansUpAndFails :
    ready.linkState ≠ .synchronizing ∧ startCommBuilt.linkState = .synchronizing := by decide
theorem witness_TickAdvancesTheAddressCharacter :
    (running .sendingAddress 0#4 2#16).ismState = .sendingAddress ∧ 1#16 < (running .sendingAddress 0#4 2#16).initTimer ∧
    (running .sendingAddress 7#4 1#16).bitIdx.toNat < cfg.nDataBits.toNat ∧
    (running .sendingAddress 8#4 1#16).bitIdx < 9#4 ∧
    cfg.nDataBits.toNat ≤ (running .sendingAddress 8#4 1#16).bitIdx.toNat ∧ (running .sendingAddress 8#4 1#16).initTimer = 1#16 ∧
    (running .sendingAddress 8#4 1#16).answer = true ∧ (failing (running .sendingAddress 8#4 1#16)).answer = false := by
  decide
theorem witness_TickAfterTheStopBitSetsTheRate :
    (running .sendingAddress 9#4 1#16).ismState = .sendingAddress ∧ (running .sendingAddress 9#4 1#16).bitIdx = 9#4 ∧
    1#16 < (running .sendingAddress 9#4 200#16).initTimer ∧ (running .sendingAddress 9#4 1#16).initTimer = 1#16 ∧
    (running .sendingAddress 9#4 1#16).answer = true ∧ (failing (running .sendingAddress 9#4 1#16)).answer = false := by
  decide
theorem witness_TickAwaitingSyncEndsInReady :
    (running .awaitingSync 9#4 2#16).ismState = .awaitingSync ∧ 1#16 < (running .awaitingSync 9#4 2#16).initTimer ∧
    (running .awaitingSync 9#4 1#16).initTimer = 1#16 := by decide
theorem witness_TickPulseLowRaisesTheLine :
    (running .pulseLow 0#4 2#16).ismState = .pulseLow ∧ 1#16 < (running .pulseLow 0#4 2#16).initTimer ∧
    (running .pulseLow 0#4 1#16).initTimer = 1#16 ∧ (running .pulseLow 0#4 1#16).answer = true ∧
    (failing (running .pulseLow 0#4 1#16)).answer = false := by decide
theorem witness_TickPulseHighBuildsTheStartCommFrame :
    (running .pulseHigh 0#4 2#16).ismState = .pulseHigh ∧ 1#16 < (running .pulseHigh 0#4 2#16).initTimer ∧
    (running .pulseHigh 0#4 1#16).initTimer = 1#16 ∧ (running .pulseHigh 0#4 1#16).answer = true ∧
    (running .pulseHigh 0#4 1#16).cfg.maxPayload ≠ 0#8 ∧
    (noRoom (running .pulseHigh 0#4 1#16)).cfg.maxPayload = 0#8 ∧
    (noRoom (running .pulseHigh 0#4 1#16)).answer = true ∧
    (failing (running .pulseHigh 0#4 1#16)).answer = false := by decide
theorem witness_StartCommFrameIsWrittenThenReady :
    startCommBuilt.ismState = .sendingStartComm ∧ startCommBuilt.txLen.toNat ≤ 260 ∧
    startCommBuilt.txFrame.read 4 = startCommBuilt.cfg.sidStartComm ∧ startCommBuilt.answer = true ∧
    (failing startCommBuilt).answer = false := by decide
theorem witness_HandlersOutsideTheirStateDoNothing :
    idle.ismState ≠ .sendingAddress ∧ 9#4 ≤ (running .sendingAddress 9#4 1#16).bitIdx ∧
    (running .sendingAddress 8#4 1#16).bitIdx ≠ 9#4 ∧ idle.ismState ≠ .awaitingSync ∧ idle.ismState ≠ .pulseLow ∧
    idle.ismState ≠ .pulseHigh ∧ idle.ismState ≠ .sendingStartComm ∧
    (running .sendingStartComm 0#4 0#16).txFrame.read 4 ≠ cfg.sidStartComm ∧
    (waiting readReq 1#16).dispatchEnabled = false ∧
    ((waiting testerReq 0#16).dispatchEnabled = true ∧
      (waiting testerReq 0#16).queue.head? ≠ some (readDtcsRequest (waiting testerReq 0#16).cfg)) ∧
    ((waiting readReq 0#16).dispatchEnabled = true ∧
      (waiting readReq 0#16).queue.head? ≠ some (testerPresentRequest (waiting readReq 0#16).cfg)) := by decide
theorem witness_SendServiceEnqueues :
    (List.replicate 254 0#8 : List Byte).length ≤ (waiting readReq 0#16).cfg.maxPayload.toNat ∧
    (waiting readReq 0#16).ismState = .ready ∧
    (waiting readReq 0#16).queue.length ≠ (waiting readReq 0#16).cfg.queueDepth ∧
    ((waiting readReq 0#16).cfg.queueMode = .reject →
      (waiting readReq 0#16).pendingValid = false ∧ (waiting readReq 0#16).queue = []) := by decide +kernel
/-- Refused for the payload, the link, a full queue, and in `Reject` mode for a pending or a waiting request. -/
theorem witness_SendServiceRefusals :
    idle.cfg.maxPayload.toNat < (List.replicate 255 0#8 : List Byte).length ∧ idle.ismState ≠ .ready ∧
    ({ ready with queue := [readReq, readReq] } : State).queue.length = ready.cfg.queueDepth ∧
    (rejecting (awaiting 0x18#8 1#16)).cfg.queueMode = .reject ∧
    (rejecting (awaiting 0x18#8 1#16)).pendingValid = true ∧
    (rejecting (waiting readReq 0#16)).cfg.queueMode = .reject ∧
    (rejecting (waiting readReq 0#16)).queue ≠ [] := by decide +kernel
/-- Operands of the configuration's widths, and of others. -/
theorem witness_ConvenienceCommandsExpand :
    ([0x00#8, 0x40#8, 0x00#8].length = ready.cfg.memReqPayload.addressBytes ∧
      [0x10#8].length = ready.cfg.memReqPayload.sizeBytes) ∧
    [0x00#8, 0x40#8].length ≠ ready.cfg.memReqPayload.addressBytes := by decide
theorem witness_ConvenienceCommandsEnqueue :
    ready.cfg.memReqPayload.read [0x00#8, 0x40#8, 0x00#8] [0x10#8] = some [0x00#8, 0x40#8, 0x00#8, 0x10#8] ∧
    ready.cfg.memReqPayload.write [0x00#8, 0x40#8, 0x00#8] [0xDE#8] =
      some [0x00#8, 0x40#8, 0x00#8, 0x01#8, 0xDE#8] ∧
    ([] : List Byte).length ≤ ready.cfg.maxPayload.toNat ∧ ready.ismState = .ready ∧ ready.queue.length ≠ ready.cfg.queueDepth ∧
    (ready.cfg.queueMode = .reject → ready.pendingValid = false ∧ ready.queue = []) := by decide
theorem witness_CancelRequestResolvesThePending :
    ready.pendingValid = false ∧ (awaiting 0x18#8 1#16).pendingValid = true := by decide
theorem witness_DispatchWritesAndAwaits :
    (waiting readReq 0#16).ismState = .ready ∧ (waiting readReq 0#16).pendingValid = false ∧
    (waiting readReq 0#16).guardTimer = 0#16 ∧ (waiting readReq 0#16).queue = [⟨0x18#8, [], true⟩] ∧
    readDtcsRequest (waiting readReq 0#16).cfg = ⟨0x18#8, [], true⟩ ∧
    ([] : List Byte).length ≤ cfg.maxPayload.toNat ∧ (waiting readReq 0#16).answer = true := by decide
theorem witness_DispatchFireAndForget :
    (waiting testerReq 0#16).queue = [⟨0x3E#8, [], false⟩] ∧
    (waiting testerReq 0#16).ismState = .ready ∧ (waiting testerReq 0#16).pendingValid = false ∧
    (waiting testerReq 0#16).guardTimer = 0#16 ∧
    testerPresentRequest (waiting testerReq 0#16).cfg = ⟨0x3E#8, [], false⟩ ∧
    (waiting testerReq 0#16).answer = true := by decide
theorem witness_DispatchWriteFailureResolves :
    (failing (waiting readReq 0#16)).answer = false ∧
    (failing (waiting readReq 0#16)).queue = [⟨0x18#8, [], true⟩] ∧
    (failing (waiting readReq 0#16)).ismState = .ready ∧
    (failing (waiting readReq 0#16)).pendingValid = false ∧
    (failing (waiting readReq 0#16)).guardTimer = 0#16 := by decide
theorem witness_MalformedBlockIsNoise :
    encode (.rx []) = some (.inbound, []) ∧ decodeFrame cfg.negRespSid [] = .error .frameTooShort := by decide
/-- A service response with nothing pending and with another SID pending; a negative response with nothing pending. -/
theorem witness_UnmatchedFrameChangesNothing :
    encode (.rspTesterPresent hdr []) = some (.inbound, [0x80#8, 0xF1#8, 0x12#8, 0x01#8, 0x7E#8, 0x02#8]) ∧
    decodeFrame cfg.negRespSid [0x80#8, 0xF1#8, 0x12#8, 0x01#8, 0x7E#8, 0x02#8] = .service 0x7E#8 [] ∧
    0x7E#8 ≠ (awaiting 0x18#8 1#16).pendingSid + cfg.posRespOffset ∧
    decodeFrame cfg.negRespSid [0x80#8, 0xF1#8, 0x12#8, 0x03#8, 0x7F#8, 0x18#8, 0x11#8, 0x2E#8] = .negative 0x18#8 0x11#8 ∧
    ready.pendingValid = false := by decide
theorem witness_PositiveResponseResolves :
    ([] : List Byte).length ≤ 254 ∧ (0x00#8 : Byte) ≠ cfg.negRespSid ∧ (awaiting 0xC0#8 1#16).pendingValid = true ∧
    0x00#8 = (awaiting 0xC0#8 1#16).pendingSid + cfg.posRespOffset ∧
    0x58#8 = (awaiting 0x18#8 1#16).pendingSid + cfg.posRespOffset ∧
    0x7E#8 = (awaiting 0x3E#8 1#16).pendingSid + cfg.posRespOffset ∧
    0xC1#8 = (awaiting 0x81#8 1#16).pendingSid + cfg.posRespOffset := by decide
/-- No DTC, and the 84 DTCs a frame can carry (R93). -/
theorem witness_ReadDtcsResponseCarriesTheDtcs :
    (awaiting 0x18#8 1#16).pendingValid = true ∧ (awaiting 0x18#8 1#16).pendingSid = cfg.sidReadDtc ∧
    cfg.sidReadDtc + cfg.posRespOffset = 0x58#8 ∧ cfg.negRespSid ≠ 0x58#8 ∧
    ([] : List Byte).length = 3 * (0x00#8).toNat ∧ (List.replicate 252 0#8 : List Byte).length = 3 * (0x54#8).toNat ∧
    (List.replicate 252 0#8 : List Byte).length ≤ 253 := by decide +kernel
/-- V-FC-37, and the longest payload after the error code. -/
theorem witness_NegativeResponseResolves :
    (awaiting 0x18#8 1#16).pendingValid = true ∧
    decodeFrame cfg.negRespSid [0x80#8, 0xF1#8, 0x12#8, 0x03#8, 0x7F#8, 0x18#8, 0x11#8, 0x2E#8] =
      .negative 0x18#8 0x11#8 ∧
    cfg.negRespSid = 0x7F#8 ∧ (List.replicate 252 0#8 : List Byte).length ≤ 252 := by decide +kernel
/-- Nothing pending; another SID pending; and, in a state that meets the invariant, any SID pending. -/
theorem witness_UnawaitedAnswersAreDiscarded :
    (List.replicate 254 0#8 : List Byte).length ≤ 254 ∧ cfg.negRespSid ≠ 0x7E#8 ∧ cfg.negRespSid ≠ 0xC1#8 ∧
    ready.pendingValid = false ∧ (awaiting 0x18#8 1#16).pendingSid + cfg.posRespOffset ≠ 0x7E#8 ∧
    (awaiting 0x18#8 1#16).pendingSid + cfg.posRespOffset ≠ 0xC1#8 ∧
    cfg.sidTesterPresent + cfg.posRespOffset = 0x7E#8 ∧ (awaiting 0x18#8 1000#16).pendingValid = true := by
  decide +kernel
theorem witness_UnawaitedAnswersAreDiscarded_inv : Inv (awaiting 0x18#8 1000#16) := inv_awaiting
theorem witness_TickRunsTheDispatcherTimers :
    (ready.pendingValid = false ∧ ready.guardTimer = 0#16) ∧
    ((waiting readReq 1#16).pendingValid = false ∧ (waiting readReq 1#16).guardTimer ≠ 0#16) ∧
    ((awaiting 0x18#8 2#16).pendingValid = true ∧ (awaiting 0x18#8 2#16).guardTimer = 0#16 ∧
      1#16 < (awaiting 0x18#8 2#16).respTimer) ∧
    (awaiting 0x18#8 1#16).respTimer = 1#16 := by decide
theorem witness_ResetMeetsTheInvariant : cfg.wf := by decide
/-- A step that answers a next state from a state that meets the invariant. -/
theorem witness_StepKeepsTheInvariant : Inv startCommBuilt ∧ ∃ t, step startCommBuilt = .next t :=
  ⟨inv_start_comm_built, _, rfl⟩
theorem witness_ReachableStatesMeetTheInvariants :
    Reachable { State.reset with cfg := cfg, tOpen := true, tBaud := 9600#32, tLineLow := true } :=
  .start cfg (by decide) true 9600#32 true
theorem witness_NoErrorStopsTheBlock : Inv idle := inv_idle
theorem witness_EveryCommandIsAcknowledgedOnce :
    isCommand (.readMemory [0x00#8, 0x40#8, 0x00#8] [0x10#8]) = true ∧
    [0x00#8, 0x40#8, 0x00#8].length = ready.cfg.memReqPayload.addressBytes ∧
    [0x10#8].length = ready.cfg.memReqPayload.sizeBytes := by decide
theorem witness_StepAppendsOutputsAndKeepsCfg : ∃ t, step (idle.present (.cmd [0x03#8])) = .next t := ⟨_, rfl⟩
theorem witness_NoWriteWhileARequestIsPending :
    Inv (awaiting 0x18#8 1000#16) ∧ (awaiting 0x18#8 1000#16).pendingValid = true ∧
    ∃ t, step (awaiting 0x18#8 1000#16) = .next t :=
  ⟨inv_awaiting, rfl, _, rfl⟩
theorem witness_DispatcherNeverWritesIsmState :
    isIsmOperation .cancelRequest = false ∧ (∃ t, exec .cancelRequest (awaiting 0x18#8 1#16) = .next t) ∧
    isIsmOperation (.tWrite []) = false ∧ ¬ isSettingCall (.tWrite []) := by
  refine ⟨rfl, ⟨_, rfl⟩, rfl, ?_⟩
  simp [isSettingCall]
theorem witness_LowPulseLastsItsTicks :
    Inv (running .pulseLow 0#4 25#16) ∧ (running .pulseLow 0#4 25#16).ismState = .pulseLow ∧
    24 < (running .pulseLow 0#4 25#16).initTimer.toNat ∧ (running .pulseLow 0#4 25#16).answer = true ∧
    (failing (running .pulseLow 0#4 25#16)).answer = false := ⟨inv_pulse_low, rfl, by decide, rfl, rfl⟩
theorem witness_UnansweredRequestTimesOut :
    Inv (awaiting 0x18#8 1000#16) ∧ (awaiting 0x18#8 1000#16).pendingValid = true ∧
    999 < (awaiting 0x18#8 1000#16).respTimer.toNat := ⟨inv_awaiting, rfl, by decide⟩
theorem witness_GuardSeparatesRequests :
    Inv (waiting readReq 55#16) ∧ (waiting readReq 55#16).ismState = .ready ∧
    (waiting readReq 55#16).pendingValid = false ∧ (waiting readReq 55#16).queue ≠ [] ∧
    54 < (waiting readReq 55#16).guardTimer.toNat ∧ (waiting readReq 55#16).guardTimer ≠ 0#16 ∧
    ∃ t, step ((waiting readReq 55#16).present (.rx [])) = .next t :=
  ⟨inv_waiting, rfl, rfl, by decide, by decide, by decide, _, rfl⟩
theorem witness_FastInitRun :
    Inv idle ∧ idle.linkState ≠ .synchronizing ∧ idle.pendingValid = false ∧ idle.queue = [] ∧ idle.tOpen = true ∧
    idle.answers = true :: true :: true :: List.replicate 9 true ∧ 24 < idle.cfg.tPulseLow.toNat ∧
    24 < idle.cfg.tPulseHigh.toNat ∧ ∃ t, exec (.startInitFast 0x12#8) idle = .next t :=
  ⟨inv_idle, by decide, rfl, rfl, rfl, rfl, by decide, by decide, _, rfl⟩
theorem witness_FiveBaudInitRun :
    Inv idle ∧ idle.linkState ≠ .synchronizing ∧ idle.pendingValid = false ∧ idle.queue = [] ∧ idle.tOpen = true ∧
    idle.answers = List.replicate 11 true ++ [true] ∧ 2024 < 10 * idle.cfg.tBit.toNat + idle.cfg.tSettle.toNat ∧
    ∃ t, exec (.startInit5Baud 0x12#8) idle = .next t :=
  ⟨inv_idle, by decide, rfl, rfl, rfl, rfl, by decide, _, rfl⟩

end Sys2Proof.Tests
end

section
/-! What a presented event runs, and what the command port makes of bytes: the rules the obligations O5 to O8 rest
on. -/

namespace Sys2Proof.Machine

/-! ### Internal actions -/

/-- In `SendingStartComm` the internal action is the ISM's write (R176). -/
theorem acceptTau_of_sendingStartComm {s : State} (h : s.ismState = .sendingStartComm) :
    acceptTau s = exec .tauIsmWrite s := by
  simp only [acceptTau, tauAction, (ismWriteEnabled_iff s).2 h, if_true]

/-- A `Dispatch` that is not enabled changes nothing (R210). -/
theorem exec_tauDispatch_of_disabled {s : State} (h : s.dispatchEnabled = false) :
    exec .tauDispatch s = .next s := by
  simp only [exec, execTauDispatch, h, Bool.false_eq_true, if_false]

/-- In every other state it is `Dispatch`, which does nothing where it is not enabled (R210). -/
theorem acceptTau_of_not_sendingStartComm {s : State} (h : s.ismState ≠ .sendingStartComm) :
    acceptTau s = exec .tauDispatch s := by
  have hw : s.ismWriteEnabled = false := by simpa using mt (ismWriteEnabled_iff s).1 h
  cases hd : s.dispatchEnabled with
  | true => simp only [acceptTau, tauAction, hw, hd, Bool.false_eq_true, if_false, if_true]
  | false =>
    rw [exec_tauDispatch_of_disabled hd]
    simp only [acceptTau, tauAction, hw, hd, Bool.false_eq_true, if_false]

/-- An enabled `Dispatch` is the internal action (R210). -/
theorem acceptTau_of_dispatchEnabled {s : State} (h : s.dispatchEnabled = true) :
    acceptTau s = .next (dispatch s) := by
  have hr : s.ismState = .ready := ((dispatchEnabled_iff s).1 h).1
  rw [acceptTau_of_not_sendingStartComm (by simp [hr])]
  simp only [exec, execTauDispatch, h, if_true]

/-- A presented Tick gives way to an enabled internal action and stays presented (R11). -/
theorem step_tick_of_tauEnabled {s : State} (h : (s.present .tick).tauEnabled = true) :
    step (s.present .tick) = acceptTau (s.present .tick) := by
  simp only [step, fetch, present_presented, h, if_true, accept]

/-! ### A Tick -/

/-- The ISM's handler runs first, then the SD's (R225; log 27). -/
theorem acceptTick_of_handler {s : State} {i : Instr} (h : tickHandler s = some i) :
    acceptTick s = andThen (exec i s) (exec .tickSd) := by
  simp only [acceptTick, h]

/-- Without a handler of the ISM the Tick is the SD's alone (R151). -/
theorem acceptTick_of_no_handler {s : State} (h : tickHandler s = none) : acceptTick s = exec .tickSd s := by
  simp only [acceptTick, h]

/-! ### The command port -/

/-- Bytes that are a command run it (R10, R100). -/
theorem step_command {s : State} {bytes : List Byte} {i : Instr} (h : decodeCommand s.cfg bytes = .ok i) :
    step (s.present (.cmd bytes)) = exec i { s with presented := none } := by
  rw [step_present (.cmd bytes) s nofun]
  simp only [accept, acceptCommand, h]

/-- Bytes that are no command are ignored (R96(g), R319; log 15). -/
theorem step_noCommand {s : State} {bytes : List Byte} {e : DecodeError}
    (h : decodeCommand s.cfg bytes = .error e) :
    step (s.present (.cmd bytes)) = .next { s with presented := none } := by
  rw [step_present (.cmd bytes) s nofun]
  simp only [accept, acceptCommand, h]

/-- A delivered block is received, whatever its row (R215). -/
theorem step_block (block : List Byte) (s : State) :
    step (s.present (.rx block)) = .next (receive block { s with presented := none }) := by
  rw [step_present (.rx block) s nofun]
  exact exec_decodeBlock _ _ _

/-! ### Memory commands of other widths (D28; log 15) -/

/-- `READ_MEMORY` with operands of other widths has no effect. -/
theorem exec_readMemory_of_other_widths {s : State} {address size : List Byte}
    (h : ¬(address.length = s.cfg.memReqPayload.addressBytes ∧ size.length = s.cfg.memReqPayload.sizeBytes)) :
    exec (.readMemory address size) s = .next s := by
  simp only [exec, execReadMemory, MemReqPayload.read_of_other_widths _ _ _ h, acceptBuilt]

/-- `WRITE_MEMORY` with an address of another width has no effect. -/
theorem exec_writeMemory_of_other_width {s : State} {address data : List Byte}
    (h : address.length ≠ s.cfg.memReqPayload.addressBytes) :
    exec (.writeMemory address data) s = .next s := by
  simp only [exec, execWriteMemory, MemReqPayload.write_of_other_width _ _ _ h, acceptBuilt]

end Sys2Proof.Machine

namespace Sys2Proof

open Machine

/-! ### The bytes of a command -/

/-- A code in no row of the table is no command (R96(g)). -/
theorem decodeCommand_unknownCode (c : Cfg) {code : Byte} (rest : List Byte)
    (h : code ∉ [0x01#8, 0x02#8, 0x03#8, 0x04#8, 0x10#8, 0x11#8, 0x12#8, 0x13#8, 0x14#8, 0x15#8]) :
    decodeCommand c (code :: rest) = .error (.unknownCode code) := by
  simp only [List.mem_cons, List.not_mem_nil, or_false, not_or] at h
  simp only [decodeCommand, decodeCommandPrefix, h, if_false]

/-- `READ_MEMORY` splits its operand bytes at the width of the address (log 4). -/
theorem decodeCommand_readMemory (c : Cfg) (ops : List Byte) :
    decodeCommand c (0x14#8 :: ops) =
      .ok (.readMemory (ops.take c.memReqPayload.addressBytes) (ops.drop c.memReqPayload.addressBytes)) := rfl

/-- `WRITE_MEMORY` splits its operand bytes at the width of the address (log 4). -/
theorem decodeCommand_writeMemory (c : Cfg) (ops : List Byte) :
    decodeCommand c (0x15#8 :: ops) =
      .ok (.writeMemory (ops.take c.memReqPayload.addressBytes) (ops.drop c.memReqPayload.addressBytes)) := rfl

/-- A presentation that is one command and nothing after it is that command. -/
theorem decodeCommand_of_prefix {c : Cfg} {bytes : List Byte} {i : Instr}
    (h : decodeCommandPrefix c bytes = .ok (i, [])) : decodeCommand c bytes = .ok i := by
  simp only [decodeCommand, h]

/-- The payload length of `SEND_SERVICE` is its two bytes, the high one first (R100). -/
theorem byte_length_halves (hi lo : Byte) {n : Nat} (h : n = hi.toNat * 256 + lo.toNat) :
    byte (n / 256) = hi ∧ byte n = lo := by
  have hhi := hi.isLt
  have hlo := lo.isLt
  constructor <;> apply BitVec.eq_of_toNat_eq <;> simp only [byte, BitVec.toNat_ofNat] <;> omega

/-- The one operand byte of a command, taken from the front. -/
theorem takeByte_ok {mk : Byte → Instr} {ops rest : List Byte} {i : Instr} (h : takeByte mk ops = .ok (i, rest)) :
    ∃ a, ops = a :: rest ∧ i = mk a := by
  cases ops with
  | nil => cases h
  | cons a ops => cases h; exact ⟨a, rfl, rfl⟩

/-- The operands of `SEND_SERVICE`, taken from the front, and the bytes they were taken from (R100). -/
theorem takeSendService_ok {ops rest : List Byte} {i : Instr} (h : takeSendService ops = .ok (i, rest)) :
    ∃ sid payload, i = .sendService sid payload ∧ payload.length < 65536 ∧
      ops = sid :: byte (payload.length / 256) :: byte payload.length :: (payload ++ rest) := by
  unfold takeSendService at h
  split at h
  · next sid hi lo r =>
    split at h
    · cases h
    · next hlen =>
      cases h
      have hl : (r.take (hi.toNat * 256 + lo.toNat)).length = hi.toNat * 256 + lo.toNat := by
        rw [List.length_take]; omega
      obtain ⟨h1, h2⟩ := byte_length_halves hi lo hl
      have hhi := hi.isLt
      have hlo := lo.isLt
      exact ⟨sid, _, rfl, by omega, by rw [h1, h2, List.take_append_drop]⟩
  · cases h

/-- `SEND_SERVICE` with a payload its length bytes can count is read back, whatever follows it (R100). -/
theorem takeSendService_append (sid : Byte) (payload rest : List Byte) (h : payload.length < 65536) :
    takeSendService (sid :: byte (payload.length / 256) :: byte payload.length :: (payload ++ rest)) =
      .ok (.sendService sid payload, rest) := by
  have hlen : (byte (payload.length / 256)).toNat * 256 + (byte payload.length).toNat = payload.length := by
    simp only [byte, BitVec.toNat_ofNat]; omega
  simp only [takeSendService, hlen, List.length_append, if_neg (Nat.not_lt.2 (Nat.le_add_right _ _)),
    List.take_left, List.drop_left]

/-- The command at the front of a byte sequence: its own bytes come first, and alone they decode to it. -/
theorem decodeCommandPrefix_ok {c : Cfg} {bs rest : List Byte} {i : Instr}
    (h : decodeCommandPrefix c bs = .ok (i, rest)) :
    ∃ bytes, bs = bytes ++ rest ∧ encode i = some (.commandPort, bytes) ∧ decodeCommand c bytes = .ok i := by
  unfold decodeCommandPrefix at h
  split at h
  · cases h
  · next code ops =>
    split_ifs at h with h1 h2 h3 h4 h5 h6 h7 h8 h9 h10
    case pos =>
      obtain ⟨a, rfl, rfl⟩ := takeByte_ok h
      exact ⟨[0x01#8, a], by rw [h1]; rfl, rfl, rfl⟩
    case pos =>
      obtain ⟨a, rfl, rfl⟩ := takeByte_ok h
      exact ⟨[0x02#8, a], by rw [h2]; rfl, rfl, rfl⟩
    case pos => cases h; exact ⟨[0x03#8], by rw [h3]; rfl, rfl, rfl⟩
    case pos => cases h; exact ⟨[0x04#8], by rw [h4]; rfl, rfl, rfl⟩
    case pos =>
      obtain ⟨sid, payload, rfl, hlen, rfl⟩ := takeSendService_ok h
      refine ⟨_, by rw [h5]; rfl, rfl, decodeCommand_of_prefix ?_⟩
      simpa [decodeCommandPrefix] using takeSendService_append sid payload [] hlen
    case pos => cases h; exact ⟨[0x11#8], by rw [h6]; rfl, rfl, rfl⟩
    case pos => cases h; exact ⟨[0x12#8], by rw [h7]; rfl, rfl, rfl⟩
    case pos => cases h; exact ⟨[0x13#8], by rw [h8]; rfl, rfl, rfl⟩
    case pos =>
      cases h
      exact ⟨0x14#8 :: ops, by rw [h9, List.append_nil],
        by simp only [encode, List.take_append_drop], decodeCommand_readMemory c ops⟩
    case pos =>
      cases h
      exact ⟨0x15#8 :: ops, by rw [h10, List.append_nil],
        by simp only [encode, List.take_append_drop], decodeCommand_writeMemory c ops⟩

/-- A request row is one of three (R95). -/
theorem decodeRequestSid_ok {bytes : List Byte} {i : Instr} (h : decodeRequestSid bytes = .ok i) :
    i = .sidReadDtcs ∨ i = .sidTesterPresent ∨ i = .sidStartCommunication := by
  unfold decodeRequestSid at h
  split at h
  · cases h
  · split_ifs at h <;> cases h <;> simp
  · cases h

/-- The row of a `serviceId` byte is a request row or that of an inbound frame (R95). -/
theorem decodeServiceIdByte_some {sid : Byte} {i : Instr} (h : decodeServiceIdByte sid = some i) :
    (i = .sidReadDtcs ∨ i = .sidTesterPresent ∨ i = .sidStartCommunication) ∨
      ∃ block, encode i = some (.inbound, block) := by
  unfold decodeServiceIdByte at h
  split at h
  · next j hj => cases h; exact .inl (decodeRequestSid_ok hj)
  · split_ifs at h
    cases h
    exact .inr ⟨_, encode_decodeBlock none _⟩

/-- What a row's word can be: a command, a request row, or an inbound row. -/
theorem decodeTableWordFor_some {c : Cfg} {nbits w : Nat} {i : Instr} (h : decodeTableWordFor c nbits w = some i) :
    (∃ bytes, encode i = some (.commandPort, bytes) ∧ decodeCommand c bytes = .ok i) ∨
      (i = .sidReadDtcs ∨ i = .sidTesterPresent ∨ i = .sidStartCommunication) ∨
      ∃ block, encode i = some (.inbound, block) := by
  unfold decodeTableWordFor at h
  split at h
  · cases h
  · split at h
    · next j rest hj =>
      split_ifs at h
      cases h
      obtain ⟨bytes, -, he, hd⟩ := decodeCommandPrefix_ok hj
      exact .inl ⟨bytes, he, hd⟩
    · split_ifs at h
      exact .inr (decodeServiceIdByte_some h)

end Sys2Proof

namespace Sys2Proof.Machine

/-! ### Placing a row's word (log 25) -/

/-- A command is placed as its bytes at the command port. -/
theorem place_command {i : Instr} {bytes : List Byte} (s : State) (h : encode i = some (.commandPort, bytes)) :
    place i s = s.present (.cmd bytes) := by
  unfold place
  split
  · cases h
  · cases h
  · cases h
  · simp only [h]

/-- An inbound row is placed as a delivery of its block. -/
theorem place_inbound {i : Instr} {block : List Byte} (s : State) (h : encode i = some (.inbound, block)) :
    place i s = s.present (.rx block) := by
  unfold place
  split
  · cases h
  · cases h
  · cases h
  · simp only [h]

/-- With the request set up at the head of the queue, `Dispatch` is enabled (R210). -/
theorem withRequestAtHead_dispatchEnabled (req : ServiceRequest) (s : State) :
    (withRequestAtHead req s).dispatchEnabled = true :=
  (dispatchEnabled_iff _).2 ⟨rfl, rfl, List.cons_ne_nil _ _, rfl⟩

/-- The internal action that follows is the `Dispatch` of that request. -/
theorem step_withRequestAtHead (req : ServiceRequest) (s : State) :
    step ((withRequestAtHead req s).present .tau) =
      .next (dispatch { withRequestAtHead req s with presented := none }) := by
  rw [step_present .tau _ nofun]
  exact acceptTau_of_dispatchEnabled (withRequestAtHead_dispatchEnabled req { s with presented := none })

/-- The row `SID_READ_DTCS` is the dispatch of its request (R235; log 17). -/
theorem exec_sidReadDtcs_withRequestAtHead (s : State) :
    exec .sidReadDtcs { withRequestAtHead (readDtcsRequest s.cfg) s with presented := none } =
      .next (dispatch { withRequestAtHead (readDtcsRequest s.cfg) s with presented := none }) := by
  refine congrArg Host.Outcome.next (if_pos (Bool.and_eq_true_iff.2 ⟨?_, decide_eq_true rfl⟩))
  exact withRequestAtHead_dispatchEnabled (readDtcsRequest s.cfg) s

/-- The row `SID_TESTER_PRESENT` is the dispatch of its request (R237; log 17). -/
theorem exec_sidTesterPresent_withRequestAtHead (s : State) :
    exec .sidTesterPresent { withRequestAtHead (testerPresentRequest s.cfg) s with presented := none } =
      .next (dispatch { withRequestAtHead (testerPresentRequest s.cfg) s with presented := none }) := by
  refine congrArg Host.Outcome.next (if_pos (Bool.and_eq_true_iff.2 ⟨?_, decide_eq_true rfl⟩))
  exact withRequestAtHead_dispatchEnabled (testerPresentRequest s.cfg) s

/-- The byte of `tx_frame` that the row `SID_START_COMMUNICATION` looks at is the SID of the loaded frame (R84, R92). -/
theorem read_writeBytes_buildFrame_sid (m : Memory) (hdr : Header) (sid : Byte) (p : List Byte) :
    (m.writeBytes 0 (buildFrame hdr sid p)).read 4 = sid := by
  simp only [buildFrame, frameBody, List.cons_append, Memory.writeBytes]
  rw [Memory.read_writeBytes_outside _ _ _ _ (by omega), Memory.read_write_same]

/-- The loaded frame waits to be written, its SID in byte 4, or there was no room for it and the run failed (R162; log
21). -/
theorem loadStartComm_cases (s : State) :
    ((loadStartComm s).ismState = .sendingStartComm ∧
        (loadStartComm s).txFrame.read 4 = (loadStartComm s).cfg.sidStartComm) ∨
      (loadStartComm s).ismState = .failed := by
  by_cases h : 1 ≤ s.cfg.maxPayload.toNat
  · rw [loadStartComm_of_room s h]
    exact .inl ⟨rfl, read_writeBytes_buildFrame_sid _ _ _ _⟩
  · rw [loadStartComm_of_no_room s (by omega)]
    exact .inr rfl

/-- With the frame's SID in byte 4 the internal action is what the row `SID_START_COMMUNICATION` does (R176; log 17). -/
theorem acceptTau_of_startComm_loaded {s : State} (h : s.ismState = .sendingStartComm)
    (hsid : s.txFrame.read 4 = s.cfg.sidStartComm) : acceptTau s = exec .sidStartCommunication s := by
  have hw := (ismWriteEnabled_iff s).2 h
  rw [acceptTau_of_sendingStartComm h]
  simp only [exec, execTauIsmWrite, execSidStartCommunication, hw, hsid, decide_true, Bool.and_self, if_true]

/-- In `Failed` neither an internal action nor the row changes anything (R151). -/
theorem acceptTau_of_failed {s : State} (h : s.ismState = .failed) :
    acceptTau s = exec .sidStartCommunication s := by
  have hw : s.ismWriteEnabled = false := by simp [State.ismWriteEnabled, h]
  have hd : s.dispatchEnabled = false := by simp [State.dispatchEnabled, State.linkReady, h]
  rw [acceptTau_of_not_sendingStartComm (by simp [h]), exec_tauDispatch_of_disabled hd]
  simp only [exec, execSidStartCommunication, hw, Bool.false_and, Bool.false_eq_true, if_false]

/-- The internal action after loading the StartCommunication frame is the row `SID_START_COMMUNICATION`. -/
theorem step_loadStartComm (s : State) :
    step ((loadStartComm s).present .tau) =
      exec .sidStartCommunication { loadStartComm s with presented := none } := by
  rw [step_present .tau _ nofun, accept]
  rcases loadStartComm_cases s with ⟨hs, hsid⟩ | hs
  · exact acceptTau_of_startComm_loaded hs hsid
  · exact acceptTau_of_failed hs

/-- A placed request row is the next instruction a step runs (R210, R176; log 17). -/
theorem step_place_requestRow {i : Instr} (s : State)
    (h : i = .sidReadDtcs ∨ i = .sidTesterPresent ∨ i = .sidStartCommunication) :
    step (place i s) = exec i { place i s with presented := none } := by
  rcases h with rfl | rfl | rfl
  · exact (step_withRequestAtHead _ s).trans (exec_sidReadDtcs_withRequestAtHead s).symm
  · exact (step_withRequestAtHead _ s).trans (exec_sidTesterPresent_withRequestAtHead s).symm
  · exact step_loadStartComm s

/-- Whatever a row's word stands for, once placed it is what the next step runs (log 25). -/
theorem step_withFetchWord {s : State} {nbits w : Nat} {i : Instr} (h : decodeTableWordFor s.cfg nbits w = some i) :
    step (s.withFetchWord nbits w) = exec i { s.withFetchWord nbits w with presented := none } := by
  have hw : s.withFetchWord nbits w = place i s := by simp only [State.withFetchWord, h]
  rw [hw]
  rcases decodeTableWordFor_some h with ⟨bytes, he, hd⟩ | hrow | ⟨block, he⟩
  · rw [place_command s he]
    exact step_command hd
  · exact step_place_requestRow s hrow
  · rw [place_inbound s he]
    exact (step_block block s).trans (exec_inbound i block _ he).symm

end Sys2Proof.Machine

namespace Sys2Proof.Proofs

open Machine

/-- Settles O5: each kind of presented event by the rule of `accept` it falls under. -/
theorem stepRunsTheDecodedInstruction : Obligations.StepRunsTheDecodedInstruction := by
  unfold Obligations.StepRunsTheDecodedInstruction
  intro s
  refine ⟨fun bytes i h => step_command h, fun block => step_present (.rx block) s nofun, fun h => ?_, fun h => ?_,
    fun ht i hi => ?_, fun ht hn => ?_⟩
  · rw [step_present .tau s nofun]
    exact acceptTau_of_sendingStartComm h
  · rw [step_present .tau s nofun]
    exact acceptTau_of_not_sendingStartComm h
  · exact (step_tick s ht).trans (acceptTick_of_handler hi)
  · exact (step_tick s ht).trans (acceptTick_of_no_handler hn)

/-- Settles O7: none of these presentations decodes to a command that has an effect. -/
theorem unknownCommandCodeIsIgnored : Obligations.UnknownCommandCodeIsIgnored := by
  unfold Obligations.UnknownCommandCodeIsIgnored
  refine ⟨fun s code rest h => step_noCommand (decodeCommand_unknownCode s.cfg rest h),
    fun s bytes e h => step_noCommand h, fun s ops => ⟨fun h => ?_, fun h => ?_⟩⟩
  · rw [step_command (decodeCommand_readMemory s.cfg ops)]
    refine exec_readMemory_of_other_widths ?_
    simp only [List.length_take, List.length_drop]
    omega
  · rw [step_command (decodeCommand_writeMemory s.cfg ops)]
    refine exec_writeMemory_of_other_width ?_
    simp only [List.length_take]
    omega

/-- Settles O8: the step is the enabled internal action, on the state in which the Tick is still presented. -/
theorem tickWaitsForInternalActions : Obligations.TickWaitsForInternalActions := by
  unfold Obligations.TickWaitsForInternalActions
  intro s hen
  rw [step_tick_of_tauEnabled hen]
  exact ⟨acceptTau_of_sendingStartComm (s := s.present .tick),
    acceptTau_of_not_sendingStartComm (s := s.present .tick)⟩

/-- Settles O6: a row's word is placed where its instruction is read from, by the three kinds of row. -/
theorem placedTableWordRuns : Obligations.PlacedTableWordRuns := by
  unfold Obligations.PlacedTableWordRuns
  exact ⟨fun s nbits w i h => step_withFetchWord h, fun nbits w i h => step_withFetchWord h⟩

end Sys2Proof.Proofs
end

section
/-! The Transport calls by their answer, the timed states of the ISM by their expiry, and the SD's part of a Tick: the
rules the obligations O22, O26, O45, O46 and O56 rest on. -/

namespace Sys2Proof.Machine

/-! ### The Transport calls by their answer (R312, R313; log 10) -/

/-- A successful `T.setLineState` sets the level. -/
theorem callSetLineState_of_ok {s : State} (low : Bool) (h : s.answer = true) :
    callSetLineState low s =
      { s with
        tLineLow := low, answers := s.answers.tail, callNo := s.callNo + 1
        outputs := s.outputs ++ [.call (.setLineState low true)] } := by
  simp only [callSetLineState, h, if_true, State.emit, State.takeAnswer]

/-- A failed one leaves it unknown. -/
theorem callSetLineState_of_failure {s : State} (low : Bool) (h : s.answer = false) :
    callSetLineState low s =
      { s with
        tLineLow := Config.freeLineLow s.callNo, answers := s.answers.tail, callNo := s.callNo + 1
        outputs := s.outputs ++ [.call (.setLineState low false)] } := by
  simp only [callSetLineState, h, Bool.false_eq_true, if_false, State.emit, State.takeAnswer]

/-- A successful `T.setBaudRate` sets the rate. -/
theorem callSetBaudRate_of_ok {s : State} (bps : Rate) (h : s.answer = true) :
    callSetBaudRate bps s =
      { s with
        tBaud := bps, answers := s.answers.tail, callNo := s.callNo + 1
        outputs := s.outputs ++ [.call (.setBaudRate bps true)] } := by
  simp only [callSetBaudRate, h, if_true, State.emit, State.takeAnswer]

/-- A failed one leaves it unknown. -/
theorem callSetBaudRate_of_failure {s : State} (bps : Rate) (h : s.answer = false) :
    callSetBaudRate bps s =
      { s with
        tBaud := Config.freeBaud s.callNo, answers := s.answers.tail, callNo := s.callNo + 1
        outputs := s.outputs ++ [.call (.setBaudRate bps false)] } := by
  simp only [callSetBaudRate, h, Bool.false_eq_true, if_false, State.emit, State.takeAnswer]

/-- A run that fails because `T.setLineState` did (R159, R299). -/
theorem failWith_of_setLineState_failure {s : State} (r : FailReason) (low : Bool) (h : s.answer = false) :
    failWith r (callSetLineState low s) =
      { s with
        ismState := .failed, failReason := r, initTimer := 0#16, txLen := 0#9
        tLineLow := Config.freeLineLow s.callNo, answers := s.answers.tail, callNo := s.callNo + 1
        outputs := s.outputs ++ [.call (.setLineState low false), .notify (.failed r)] } := by
  simp only [callSetLineState_of_failure low h, failWith, State.emit, List.append_assoc, List.cons_append,
    List.nil_append]

/-- A run that fails because `T.setBaudRate` did (R159, R299). -/
theorem failWith_of_setBaudRate_failure {s : State} (r : FailReason) (bps : Rate) (h : s.answer = false) :
    failWith r (callSetBaudRate bps s) =
      { s with
        ismState := .failed, failReason := r, initTimer := 0#16, txLen := 0#9
        tBaud := Config.freeBaud s.callNo, answers := s.answers.tail, callNo := s.callNo + 1
        outputs := s.outputs ++ [.call (.setBaudRate bps false), .notify (.failed r)] } := by
  simp only [callSetBaudRate_of_failure bps h, failWith, State.emit, List.append_assoc, List.cons_append,
    List.nil_append]

/-! ### A Tick of `init_timer` (R11) -/

/-- Above 1 the timer loses one and nothing else happens. -/
theorem tickInit_of_gt_one (k : State → State) {s : State} (h : 1#16 < s.initTimer) :
    tickInit k s = { s with initTimer := s.initTimer - 1#16 } := by
  have h1 : s.initTimer ≠ 1#16 := by bv_omega
  have h0 : s.initTimer ≠ 0#16 := by bv_omega
  rcases tickInit_cases k s with ⟨he, -⟩ | ⟨-, he⟩
  · exact absurd he h1
  · rw [he, countDown_of_ne_zero h0]

/-- At 1 the timer expires. -/
theorem tickInit_of_one (k : State → State) {s : State} (h : s.initTimer = 1#16) :
    tickInit k s = k { s with initTimer := 0#16 } := by
  rcases tickInit_cases k s with ⟨-, he⟩ | ⟨hne, -⟩
  · exact he
  · exact absurd h hne

/-! ### The address character (R90, R155) -/

/-- After the start bit come the data bits, least significant first. -/
theorem levelLow_succ_of_lt (a : Byte) {n k : Nat} (h : k < n) : levelLow n a (k + 1) = !a.getLsbD k := by
  simp only [levelLow, level, Nat.succ_ne_zero, if_false, Nat.succ_le_of_lt h, if_true, Nat.add_sub_cancel]

/-- After the data bits the line is high (log 28). -/
theorem levelLow_succ_of_le (a : Byte) {n k : Nat} (h : n ≤ k) : levelLow n a (k + 1) = false := by
  simp only [levelLow, level, Nat.succ_ne_zero, if_false, Nat.not_le.2 (Nat.lt_succ_of_le h), Bool.not_true]

/-- In the address character before its last bit a Tick is one of the bit's timer (R155). -/
theorem exec_tickNextBit {s : State} (hs : s.ismState = .sendingAddress) (hb : s.bitIdx < 9#4) :
    exec .tickSendingAddressNextBit s = .next (tickInit nextAddressBit s) := by
  simp only [exec, execTickSendingAddressNextBit, hs, hb, and_self, if_true]

/-- The next bit is put on the line. -/
theorem nextAddressBit_of_ok {s : State} (h : s.answer = true) :
    nextAddressBit s =
      { s with
        bitIdx := s.bitIdx + 1#4, initTimer := s.cfg.tBit
        tLineLow := levelLow s.cfg.nDataBits.toNat s.ecuAddr (s.bitIdx + 1#4).toNat
        answers := s.answers.tail, callNo := s.callNo + 1
        outputs := s.outputs ++
          [.call (.setLineState (levelLow s.cfg.nDataBits.toNat s.ecuAddr (s.bitIdx + 1#4).toNat) true)] } := by
  have ha : ({ s with bitIdx := s.bitIdx + 1#4 } : State).answer = true := h
  simp only [nextAddressBit, ha, if_true, callSetLineState_of_ok _ ha]

/-- The call fails and so does the run (R159). -/
theorem nextAddressBit_of_failure {s : State} (h : s.answer = false) :
    nextAddressBit s =
      { s with
        bitIdx := s.bitIdx + 1#4, ismState := .failed, failReason := .ioSetLineState, initTimer := 0#16, txLen := 0#9
        tLineLow := Config.freeLineLow s.callNo, answers := s.answers.tail, callNo := s.callNo + 1
        outputs := s.outputs ++
          [.call (.setLineState (levelLow s.cfg.nDataBits.toNat s.ecuAddr (s.bitIdx + 1#4).toNat) false),
            .notify (.failed .ioSetLineState)] } := by
  have ha : ({ s with bitIdx := s.bitIdx + 1#4 } : State).answer = false := h
  simp only [nextAddressBit, ha, Bool.false_eq_true, if_false, failWith_of_setLineState_failure _ _ ha]

/-! ### The high pulse (R162) -/

/-- In the high pulse a Tick is one of the pulse's timer. -/
theorem exec_tickPulseHigh {s : State} (hs : s.ismState = .pulseHigh) :
    exec .tickPulseHigh s = .next (tickInit pulseHighDone s) := by
  simp only [exec, execTickPulseHigh, hs, if_true]

/-- The rate is set and, where the configuration has room for it, the StartCommunication frame loaded (R126). -/
theorem pulseHighDone_of_ok {s : State} (h : s.answer = true) (hroom : 1 ≤ s.cfg.maxPayload.toNat) :
    pulseHighDone s =
      { s with
        ismState := .sendingStartComm, tBaud := s.cfg.baudSteady, txLen := 7#9
        txFrame := s.txFrame.writeBytes 0
          (buildFrame ⟨s.cfg.formatByte, s.ecuAddr, s.cfg.testerAddr⟩ s.cfg.sidStartComm [s.cfg.sessionType])
        answers := s.answers.tail, callNo := s.callNo + 1
        outputs := s.outputs ++ [.call (.setBaudRate s.cfg.baudSteady true)] } := by
  rw [pulseHighDone, if_pos h, loadStartComm_of_room (callSetBaudRate _ s) hroom, callSetBaudRate_of_ok _ h]
  simp only [loadTx, buildFrame_length, List.length_singleton]

/-- Where it has no room, the run fails (R281; log 21). -/
theorem pulseHighDone_of_no_room {s : State} (h : s.answer = true) (hroom : s.cfg.maxPayload.toNat = 0) :
    pulseHighDone s =
      { s with
        ismState := .failed, failReason := Config.freeEncodeFailReason, initTimer := 0#16, txLen := 0#9
        tBaud := s.cfg.baudSteady, answers := s.answers.tail, callNo := s.callNo + 1
        outputs := s.outputs ++
          [.call (.setBaudRate s.cfg.baudSteady true), .notify (.failed Config.freeEncodeFailReason)] } := by
  rw [pulseHighDone, if_pos h, loadStartComm_of_no_room (callSetBaudRate _ s) hroom, callSetBaudRate_of_ok _ h]
  simp only [failWith, State.emit, List.append_assoc, List.cons_append, List.nil_append]

/-- The call fails and so does the run (R159). -/
theorem pulseHighDone_of_failure {s : State} (h : s.answer = false) :
    pulseHighDone s =
      { s with
        ismState := .failed, failReason := .ioSetBaudRate, initTimer := 0#16, txLen := 0#9
        tBaud := Config.freeBaud s.callNo, answers := s.answers.tail, callNo := s.callNo + 1
        outputs := s.outputs ++
          [.call (.setBaudRate s.cfg.baudSteady false), .notify (.failed .ioSetBaudRate)] } := by
  rw [pulseHighDone, if_neg (Bool.eq_false_iff.1 h), failWith_of_setBaudRate_failure _ _ h]

/-- The checksum of a sequence, byte by byte (R86, R120). -/
theorem checksumOf_cons (b : Byte) (r : List Byte) : checksumOf (b :: r) = b + checksumOf r := by
  apply BitVec.eq_of_toNat_eq
  simp [checksumOf, byteSum, byte, BitVec.toNat_add]

@[simp] theorem checksumOf_nil : checksumOf [] = 0#8 := rfl

/-- The StartCommunication frame, byte by byte (R92, R126). -/
theorem buildFrame_one (hdr : Header) (sid b : Byte) :
    buildFrame hdr sid [b] =
      [hdr.format, hdr.target, hdr.source, 0x02#8, sid, b,
        hdr.format + hdr.target + hdr.source + 0x02#8 + sid + b] := by
  have hlen : byte (1 + [b].length) = 0x02#8 := rfl
  simp only [buildFrame, frameBody, hlen, checksumOf_cons, checksumOf_nil, BitVec.add_zero, BitVec.add_assoc,
    List.cons_append, List.nil_append]

/-! ### The low pulse (R161) -/

/-- The line goes high. -/
theorem pulseLowDone_of_ok {s : State} (h : s.answer = true) :
    pulseLowDone s =
      { s with
        ismState := .pulseHigh, initTimer := s.cfg.tPulseHigh, tLineLow := false
        answers := s.answers.tail, callNo := s.callNo + 1
        outputs := s.outputs ++ [.call (.setLineState false true)] } := by
  rw [pulseLowDone, if_pos h, callSetLineState_of_ok _ h]

/-- The call fails and so does the run (R159). -/
theorem pulseLowDone_of_failure {s : State} (h : s.answer = false) :
    pulseLowDone s =
      { s with
        ismState := .failed, failReason := .ioSetLineState, initTimer := 0#16, txLen := 0#9
        tLineLow := Config.freeLineLow s.callNo, answers := s.answers.tail, callNo := s.callNo + 1
        outputs := s.outputs ++ [.call (.setLineState false false), .notify (.failed .ioSetLineState)] } := by
  rw [pulseLowDone, if_neg (Bool.eq_false_iff.1 h), failWith_of_setLineState_failure _ _ h]

/-- Nothing is pending outside `Ready` (I1). -/
theorem SpecInv.not_pending {s : State} (hi : SpecInv s) (h : s.ismState ≠ .ready) : s.pendingValid = false :=
  Bool.eq_false_iff.2 fun hp => h (hi.pendingReady hp)

/-- In `PulseLow` the expiry is the end of the pulse (R151). -/
theorem onExpiry_pulseLow {s : State} (h : s.ismState = .pulseLow) : onExpiry s = pulseLowDone := by
  simp only [onExpiry, h]

/-- The whole low pulse: its ticks, and then the end of it (R11, R161). -/
theorem ticks_pulseLow {s : State} (hi : Inv s) (h : s.ismState = .pulseLow) :
    ∃ g, ticks s.initTimer.toNat s = .next (tickDispatcher (pulseLowDone (waited s none g 0#16))) := by
  have hp : s.pendingValid = false := hi.spec.not_pending (by simp [h])
  have ht : timedState s.ismState = true := by rw [h]; rfl
  rw [← onExpiry_pulseLow h]
  exact ticks_timed_whole s ht hp hi.spec.bitIdx (hi.spec.initTimer.2 ht)

/-! ### The SD's part of a Tick (R225) -/

/-- At 1 the response timer ends the request. -/
theorem tickDispatcher_of_timeout {s : State} (hp : s.pendingValid = true) (hr : s.respTimer = 1#16) :
    tickDispatcher s = resolveWith (.err .responseTimeout) s := by
  rcases tickDispatcher_cases s with ⟨hn, -⟩ | ⟨-, -, he⟩ | ⟨-, hne, -⟩
  · exact absurd hp (Bool.eq_false_iff.1 hn)
  · exact he
  · exact absurd hr hne

/-- Before that both timers count. -/
theorem tickDispatcher_of_waiting {s : State} (hp : s.pendingValid = true) (hr : s.respTimer ≠ 1#16) :
    tickDispatcher s =
      { s with guardTimer := countDown s.guardTimer, respTimer := countDown s.respTimer } := by
  rcases tickDispatcher_cases s with ⟨hn, -⟩ | ⟨-, he, -⟩ | ⟨-, -, he⟩
  · exact absurd hp (Bool.eq_false_iff.1 hn)
  · exact absurd he hr
  · exact he

end Sys2Proof.Machine

namespace Sys2Proof.Proofs

open Machine

/-- Settles O46: each call is one output, by the definition of the call. -/
theorem transportCallsAreOutputs : Obligations.TransportCallsAreOutputs := by
  unfold Obligations.TransportCallsAreOutputs
  exact fun s bps low bytes => ⟨rfl, rfl, rfl, rfl, rfl⟩

/-- Settles O22: the timer counts, or expires and the next bit of the address character is put on the line. -/
theorem tickAdvancesTheAddressCharacter : Obligations.TickAdvancesTheAddressCharacter := by
  unfold Obligations.TickAdvancesTheAddressCharacter
  intro s hs hb
  rw [exec_tickNextBit hs hb]
  refine ⟨fun ht => by rw [tickInit_of_gt_one _ ht], fun ht => ?_⟩
  have hidx : (s.bitIdx + 1#4).toNat = s.bitIdx.toNat + 1 := by bv_omega
  rw [tickInit_of_one _ ht]
  refine ⟨levelLow s.cfg.nDataBits.toNat s.ecuAddr (s.bitIdx + 1#4).toNat, fun h => ?_, fun h => ?_, fun h => ?_,
    fun h => ?_⟩
  · rw [hidx, levelLow_succ_of_lt _ h]
  · rw [hidx, levelLow_succ_of_le _ h]
  · exact congrArg Host.Outcome.next (nextAddressBit_of_ok (s := { s with initTimer := 0#16 }) h)
  · exact congrArg Host.Outcome.next (nextAddressBit_of_failure (s := { s with initTimer := 0#16 }) h)

/-- Settles O26: the timer counts, or expires with the rate set and the StartCommunication frame in `tx_frame`, or the
run fails. -/
theorem tickPulseHighBuildsTheStartCommFrame : Obligations.TickPulseHighBuildsTheStartCommFrame := by
  unfold Obligations.TickPulseHighBuildsTheStartCommFrame
  intro s hs
  rw [exec_tickPulseHigh hs]
  refine ⟨fun ht => by rw [tickInit_of_gt_one _ ht], fun ht => ?_⟩
  rw [tickInit_of_one _ ht]
  refine ⟨fun h hroom => ?_, fun h hroom => ?_, fun h => ?_⟩
  · have hfit : 1 ≤ s.cfg.maxPayload.toNat := by bv_omega
    have hread : (s.txFrame.writeBytes 0 (buildFrame ⟨s.cfg.formatByte, s.ecuAddr, s.cfg.testerAddr⟩
        s.cfg.sidStartComm [s.cfg.sessionType])).readBytes 0 7 = _ := Memory.readBytes_writeBytes _ _ 0
    refine ⟨_, _, congrArg Host.Outcome.next (pulseHighDone_of_ok (s := { s with initTimer := 0#16 }) h hfit),
      ?_, hread.trans (buildFrame_one _ _ _), rfl, Memory.wf_writeBytes _ _ _, fun a ha => ?_⟩
    · rw [encodeFrame_fits s.cfg _ _ _ [s.cfg.sessionType] hfit, hread]
    · exact Memory.read_writeBytes_outside _ _ _ _ (.inr (by simpa using ha))
  · have hnone : s.cfg.maxPayload.toNat = 0 := by rw [hroom]; rfl
    exact ⟨_, congrArg Host.Outcome.next (pulseHighDone_of_no_room (s := { s with initTimer := 0#16 }) h hnone)⟩
  · exact congrArg Host.Outcome.next (pulseHighDone_of_failure (s := { s with initTimer := 0#16 }) h)

/-- Settles O45: the three things a Tick can do to the SD's timers. -/
theorem tickRunsTheDispatcherTimers : Obligations.TickRunsTheDispatcherTimers := by
  unfold Obligations.TickRunsTheDispatcherTimers
  intro s
  have hex : exec .tickSd s = .next (tickDispatcher s) := rfl
  rw [hex]
  refine ⟨fun hp hg => ?_, fun hp hg => ?_, fun hp hg hr => ?_, fun hp hr => ?_⟩
  · rw [tickDispatcher_idle hp, hg, countDown_zero, ← hg]
  · rw [tickDispatcher_idle hp, countDown_of_ne_zero hg]
  · rw [tickDispatcher_of_waiting hp (by bv_omega), hg, countDown_zero, ← hg, countDown_of_ne_zero (by bv_omega)]
  · rw [tickDispatcher_of_timeout hp hr]
    rfl

/-- Settles O56: all ticks but the last only count, by `ticks_timed`; the last is the end of the pulse. -/
theorem lowPulseLastsItsTicks : Obligations.LowPulseLastsItsTicks := by
  unfold Obligations.LowPulseLastsItsTicks
  intro s hi hs
  have hp : s.pendingValid = false := hi.spec.not_pending (by simp [hs])
  have ht : timedState s.ismState = true := by rw [hs]; rfl
  refine ⟨fun k hk => ?_, ?_⟩
  · obtain ⟨p, g, i, he, hleft⟩ := ticks_timed k s ht hp hi.spec.bitIdx hk
    exact ⟨_, he, hs, hleft, rfl, rfl⟩
  · obtain ⟨g, he⟩ := ticks_pulseLow hi hs
    refine ⟨_, he, fun h => ?_, fun h => ?_⟩
    · have hend := pulseLowDone_of_ok (s := waited s none g 0#16) h
      rw [hend, tickDispatcher_idle (by exact hp)]
      exact ⟨rfl, rfl, rfl, rfl⟩
    · have hend := pulseLowDone_of_failure (s := waited s none g 0#16) h
      rw [hend, tickDispatcher_idle (by exact hp)]
      exact ⟨rfl, rfl, rfl⟩

end Sys2Proof.Proofs
end

section
/-! Requests accepted, the awaited response, and what every operation of a step adds to the output history: the rules
the obligations O30, O32, O33, O41, O52 and O53 rest on. -/

namespace Sys2Proof.Machine

/-! ### Requests (R106, R201) -/

/-- A request that meets none of the refusals is appended at the tail (R201 lines 5 and 6). -/
theorem acceptRequest_of_accepted {s : State} (sid : Byte) {payload : List Byte}
    (hfit : payload.length ≤ s.cfg.maxPayload.toNat) (hready : s.ismState = .ready)
    (hroom : s.queue.length ≠ s.cfg.queueDepth)
    (hmode : s.cfg.queueMode = .reject → s.pendingValid = false ∧ s.queue = []) :
    acceptRequest sid payload s =
      { s with
        queue := s.queue ++ [⟨sid, payload, decide (sid ≠ s.cfg.sidTesterPresent)⟩]
        outputs := s.outputs ++ [.ack .ok] } := by
  have hlink : ¬ s.linkState ≠ .ready := not_not.2 ((linkState_ready_iff s).2 hready)
  have hreject : ¬ (s.cfg.queueMode = .reject && (s.pendingValid || !s.queueEmpty)) = true := by
    intro h
    obtain ⟨hm, hbusy⟩ := Bool.and_eq_true_iff.1 h
    obtain ⟨hp, hq⟩ := hmode (of_decide_eq_true hm)
    simp [hp, hq, State.queueEmpty] at hbusy
  have hfull : ¬ s.queueFull = true := by simpa [State.queueFull] using hroom
  rw [acceptRequest, if_neg (Nat.not_lt.2 hfit), if_neg hlink, if_neg hreject, if_neg hfull]
  rfl

/-- `READ_MEMORY` whose payload is built is the request of that payload (R238). -/
theorem exec_readMemory_of_read {s : State} {address size payload : List Byte}
    (h : s.cfg.memReqPayload.read address size = some payload) :
    exec (.readMemory address size) s = exec (.sendService s.cfg.sidReadMem payload) s := by
  simp only [exec, execReadMemory, execSendService, h, acceptBuilt]

/-- `WRITE_MEMORY` whose payload is built is the request of that payload (R239). -/
theorem exec_writeMemory_of_write {s : State} {address data payload : List Byte}
    (h : s.cfg.memReqPayload.write address data = some payload) :
    exec (.writeMemory address data) s = exec (.sendService s.cfg.sidWriteMem payload) s := by
  simp only [exec, execWriteMemory, execSendService, h, acceptBuilt]

/-! ### The awaited response (R216) -/

/-- A frame whose SID is not that of a negative response decodes to a service response (R88, R122). -/
theorem decodeFrame_buildFrame_service {neg sid : Byte} (hdr : Header) {p : List Byte} (hp : p.length ≤ 254)
    (hs : sid ≠ neg) : decodeFrame neg (buildFrame hdr sid p) = .service sid p :=
  (decodeFrame_buildFrame neg hdr sid p hp).trans (if_neg hs)

/-- The awaited response resolves the pending request (R216). -/
theorem receive_awaited {s : State} {block : List Byte} {sid : Byte} {p : List Byte}
    (hd : decodeFrame s.cfg.negRespSid block = .service sid p) (hp : s.pendingValid = true)
    (hs : sid = s.awaitedSid) :
    receive block s = resolveWith (.response sid p (s.resultDtcs p)) (s.emit (.rawRx block)) := by
  have hawait : (s.emit (.rawRx block)).awaitedSid = s.awaitedSid := rfl
  simp only [receive, hd, handleFrame, emit_pendingValid, hp, hawait, hs, decide_true, Bool.and_self, if_true]
  rfl

/-! ### What an operation adds to the output history (R10, R61, R102) -/

/-- The history only grew, by outputs of which `acks` are an `Ack`, and the configuration is the same. -/
structure Grows (acks : Nat) (s t : State) : Prop where
  outputs : ∃ os, t.outputs = s.outputs ++ os ∧ (os.filter isAck).length = acks
  cfg : t.cfg = s.cfg

namespace Grows

theorem outputs_prefix {n : Nat} {s t : State} (h : Grows n s t) : s.outputs <+: t.outputs := by
  obtain ⟨os, ho, -⟩ := h.outputs
  exact ⟨os, ho.symm⟩

/-- An operation that leaves history and configuration alone. -/
theorem of_eq {s t : State} (ho : t.outputs = s.outputs) (hc : t.cfg = s.cfg) : Grows 0 s t :=
  ⟨⟨[], by rw [ho, List.append_nil], rfl⟩, hc⟩

theorem refl (s : State) : Grows 0 s s := of_eq rfl rfl

/-- One output. -/
theorem emit (s : State) (o : Output) : Grows (if isAck o then 1 else 0) s (s.emit o) := by
  refine ⟨⟨[o], rfl, ?_⟩, rfl⟩
  cases h : isAck o <;> simp [h]

/-- An `Ack`. -/
theorem ack (s : State) (v : AckValue) : Grows 1 s (s.emit (.ack v)) := emit s (.ack v)

/-- Growth of one operation after another. -/
theorem trans {m n : Nat} {s t u : State} (h : Grows m s t) (h' : Grows n t u) : Grows (m + n) s u := by
  obtain ⟨⟨os, ho, hm⟩, hc⟩ := h
  obtain ⟨⟨os', ho', hn⟩, hc'⟩ := h'
  refine ⟨⟨os ++ os', by rw [ho', ho, List.append_assoc], ?_⟩, hc'.trans hc⟩
  rw [List.filter_append, List.length_append, hm, hn]

/-- Nothing more is acknowledged. -/
theorem then_quiet {n : Nat} {s t u : State} (h : Grows n s t) (h' : Grows 0 t u) : Grows n s u := h.trans h'

/-- Nothing was acknowledged before. -/
theorem after_quiet {n : Nat} {s t u : State} (h : Grows 0 s t) (h' : Grows n t u) : Grows n s u :=
  Nat.zero_add n ▸ h.trans h'

end Grows

/-- One output that is no `Ack`, and registers written. -/
theorem grows_of_output {s t : State} (o : Output) (hn : isAck o = false) (ho : t.outputs = s.outputs ++ [o])
    (hc : t.cfg = s.cfg) : Grows 0 s t :=
  ⟨⟨[o], ho, by simp [hn]⟩, hc⟩

theorem failWith_grows (r : FailReason) (s : State) : Grows 0 s (failWith r s) :=
  grows_of_output (.notify (.failed r)) rfl rfl rfl

theorem callIsOpen_grows (s : State) : Grows 0 s (callIsOpen s) :=
  grows_of_output (.call (.isOpen s.tOpen)) rfl rfl rfl

theorem callSetBaudRate_grows (bps : Rate) (s : State) : Grows 0 s (callSetBaudRate bps s) :=
  grows_of_output (.call (.setBaudRate bps s.answer)) rfl rfl rfl

theorem callSetLineState_grows (low : Bool) (s : State) : Grows 0 s (callSetLineState low s) :=
  grows_of_output (.call (.setLineState low s.answer)) rfl rfl rfl

theorem sendTx_grows (s : State) : Grows 0 s (sendTx s) :=
  grows_of_output (.call (.write s.txBytes s.answer)) rfl rfl rfl

theorem resolveWith_grows (r : RequestResult) (s : State) : Grows 0 s (resolveWith r s) :=
  grows_of_output (.result r) rfl rfl rfl

theorem enterReady_grows (s : State) : Grows 0 s (enterReady s) :=
  ⟨⟨[.notify .ready, .status .initSuccessful], by simp [enterReady], rfl⟩, rfl⟩

/-! ### The ISM's operations -/

theorem loadStartComm_grows (s : State) : Grows 0 s (loadStartComm s) := by
  unfold loadStartComm
  split
  · exact .of_eq rfl rfl
  · exact failWith_grows _ s

/-- A call whose answer decides between going on and the failure entry (R159). -/
theorem grows_of_call {ok : Bool} {s called further : State} (r : FailReason) (hc : Grows 0 s called)
    (hf : Grows 0 called further) : Grows 0 s (if ok then further else failWith r called) := by
  split
  · exact hc.then_quiet hf
  · exact hc.then_quiet (failWith_grows r called)

theorem ismWrite_grows (s : State) : Grows 0 s (ismWrite s) :=
  grows_of_call _ (sendTx_grows s) (enterReady_grows _)

theorem beginFiveBaud_grows (s : State) : Grows 0 s (beginFiveBaud s) := by
  have hstart : Grows 0 s { s.emit (.status .startingFiveBaud) with bitIdx := 0#4 } :=
    grows_of_output _ rfl rfl rfl
  exact grows_of_call _ (hstart.then_quiet (callSetLineState_grows true _)) (.of_eq rfl rfl)

theorem beginFast_grows (s : State) : Grows 0 s (beginFast s) :=
  grows_of_call _ (callSetLineState_grows true s) (.of_eq rfl rfl)

theorem nextAddressBit_grows (s : State) : Grows 0 s (nextAddressBit s) := by
  have hidx : Grows 0 s { s with bitIdx := s.bitIdx + 1#4 } := .of_eq rfl rfl
  exact grows_of_call _ (hidx.then_quiet (callSetLineState_grows _ _)) (.of_eq rfl rfl)

theorem addressDone_grows (s : State) : Grows 0 s (addressDone s) :=
  grows_of_call _ (callSetBaudRate_grows _ s) (.of_eq rfl rfl)

theorem pulseLowDone_grows (s : State) : Grows 0 s (pulseLowDone s) :=
  grows_of_call _ (callSetLineState_grows false s) (.of_eq rfl rfl)

theorem pulseHighDone_grows (s : State) : Grows 0 s (pulseHighDone s) :=
  grows_of_call _ (callSetBaudRate_grows _ s) (loadStartComm_grows _)

/-- A Tick of `init_timer` adds what its expiry adds, or nothing. -/
theorem tickInit_grows {k : State → State} (hk : ∀ u, Grows 0 u (k u)) (s : State) : Grows 0 s (tickInit k s) := by
  rcases tickInit_cases k s with ⟨-, he⟩ | ⟨-, he⟩
  · rw [he]
    exact (Grows.of_eq rfl rfl : Grows 0 s { s with initTimer := 0#16 }).then_quiet (hk _)
  · rw [he]
    exact .of_eq rfl rfl

/-- An operation that runs in one state of the ISM only. -/
theorem grows_ite {c : Prop} [Decidable c] {s t : State} (h : Grows 0 s t) : Grows 0 s (if c then t else s) := by
  split
  · exact h
  · exact .refl s

/-! ### The SD's operations -/

theorem afterWrite_grows (req : ServiceRequest) (ok : Bool) (s : State) : Grows 0 s (afterWrite req ok s) := by
  unfold afterWrite
  split
  · exact (resolveWith_grows _ s).then_quiet (.emit _ .reinitRequest)
  · split
    · exact .of_eq rfl rfl
    · exact resolveWith_grows _ s

theorem dispatch_grows (s : State) : Grows 0 s (dispatch s) := by
  unfold dispatch
  split
  · exact .refl s
  · next req rest _ =>
    have hpop : Grows 0 s { s with queue := rest } := .of_eq rfl rfl
    split
    · next f _ =>
      have hload : Grows 0 s (loadTx f { s with queue := rest }) := .of_eq rfl rfl
      exact (hload.then_quiet (sendTx_grows _)).then_quiet (afterWrite_grows _ _ _)
    · exact hpop.then_quiet (resolveWith_grows _ _)

theorem receive_grows (b : List Byte) (s : State) : Grows 0 s (receive b s) := by
  have hraw : Grows 0 s (s.emit (.rawRx b)) := .emit s (.rawRx b)
  rcases receive_cases b s with ⟨k, he⟩ | ⟨-, r, he⟩
  · rw [he]
    exact hraw.then_quiet (.emit _ (.log k))
  · rw [he]
    exact hraw.then_quiet (resolveWith_grows r _)

theorem tickDispatcher_grows (s : State) : Grows 0 s (tickDispatcher s) := by
  rcases tickDispatcher_cases s with ⟨-, he⟩ | ⟨-, -, he⟩ | ⟨-, -, he⟩
  · rw [he]; exact .of_eq rfl rfl
  · rw [he]; exact resolveWith_grows _ s
  · rw [he]; exact .of_eq rfl rfl

/-! ### Commands (R102) -/

theorem startInit_grows {k : State → State} (hk : ∀ u, Grows 0 u (k u)) (mode : InitMode) (a : Byte) (s : State) :
    Grows 1 s (startInit mode a k s) := by
  rcases startInit_cases mode a k s with ⟨-, he⟩ | ⟨-, -, -, he⟩ | ⟨-, -, -, he⟩
  · rw [he]
    exact .ack s _
  · rw [he]
    exact ((callIsOpen_grows s).after_quiet (.ack _ _)).then_quiet (failWith_grows _ _)
  · rw [he]
    have hregs : Grows 0 s { callIsOpen s with
        ecuAddr := a, ecuAddrWritten := true, initMode := mode, failReason := .none } :=
      grows_of_output _ rfl rfl rfl
    have hacc : Grows 1 s (accepted mode a s) := (hregs.after_quiet (.ack _ _)).then_quiet (.emit _ (.notify _))
    exact hacc.then_quiet (hk _)

theorem cancelInit_grows (s : State) : ∃ t, exec .cancelInit s = .next t ∧ Grows 1 s t := by
  refine ⟨_, rfl, ?_⟩
  split
  · exact .ack s _
  · exact (((Grows.ack s _).then_quiet (callSetBaudRate_grows _ _)).then_quiet
      (callSetLineState_grows _ _)).then_quiet (failWith_grows _ _)

theorem cancelRequest_grows (s : State) : ∃ t, exec .cancelRequest s = .next t ∧ Grows 1 s t := by
  refine ⟨_, rfl, ?_⟩
  split
  · exact .ack s _
  · exact (Grows.ack s _).then_quiet (resolveWith_grows _ _)

theorem acceptRequest_grows (sid : Byte) (p : List Byte) (s : State) : Grows 1 s (acceptRequest sid p s) := by
  rcases acceptRequest_cases sid p s with ⟨e, -, he⟩ | ⟨-, -, -, -, he⟩
  · rw [he]
    exact .ack s _
  · rw [he]
    have hqueue : Grows 0 s { s with queue := s.queue ++ [requestOf s.cfg sid p] } := .of_eq rfl rfl
    exact hqueue.after_quiet (.ack _ _)

/-- A memory command whose operands have not the widths that `CFG.MEM_REQ_PAYLOAD` fixes (D28; log 15). -/
def hasOtherWidths (c : Cfg) (i : Instr) : Prop :=
  (∃ address size, i = .readMemory address size ∧
    ¬(address.length = c.memReqPayload.addressBytes ∧ size.length = c.memReqPayload.sizeBytes)) ∨
  ∃ address data, i = .writeMemory address data ∧ address.length ≠ c.memReqPayload.addressBytes

/-- A command is acknowledged once, or is a memory command of other widths and does nothing. -/
theorem exec_command_cases {i : Instr} (hi : isCommand i = true) (s : State) :
    (hasOtherWidths s.cfg i ∧ exec i s = .next s) ∨ ∃ t, exec i s = .next t ∧ Grows 1 s t := by
  cases i with
  | startInit5Baud a => exact .inr ⟨_, rfl, startInit_grows beginFiveBaud_grows _ _ s⟩
  | startInitFast a => exact .inr ⟨_, rfl, startInit_grows beginFast_grows _ _ s⟩
  | cancelInit => exact .inr (cancelInit_grows s)
  | cancelRequest => exact .inr (cancelRequest_grows s)
  | sendService sid p => exact .inr ⟨_, rfl, acceptRequest_grows sid p s⟩
  | readDtcs => exact .inr ⟨_, rfl, acceptRequest_grows _ _ s⟩
  | clearDtcs => exact .inr ⟨_, rfl, acceptRequest_grows _ _ s⟩
  | testerPresent => exact .inr ⟨_, rfl, acceptRequest_grows _ _ s⟩
  | readMemory address size =>
    by_cases h : address.length = s.cfg.memReqPayload.addressBytes ∧ size.length = s.cfg.memReqPayload.sizeBytes
    · rw [exec_readMemory_of_read (MemReqPayload.read_of_widths _ _ _ h.1 h.2)]
      exact .inr ⟨_, rfl, acceptRequest_grows _ _ s⟩
    · exact .inl ⟨.inl ⟨address, size, rfl, h⟩, exec_readMemory_of_other_widths h⟩
  | writeMemory address data =>
    by_cases h : address.length = s.cfg.memReqPayload.addressBytes
    · rw [exec_writeMemory_of_write (MemReqPayload.write_of_width _ _ _ h)]
      exact .inr ⟨_, rfl, acceptRequest_grows _ _ s⟩
    · exact .inl ⟨.inr ⟨address, data, rfl, h⟩, exec_writeMemory_of_other_width h⟩
  | _ => cases hi

/-! ### A step -/

/-- The handler a Tick runs acknowledges nothing. -/
theorem tickHandler_grows {s : State} {i : Instr} (h : tickHandler s = some i) :
    ∃ t, exec i s = .next t ∧ Grows 0 s t := by
  unfold tickHandler at h
  split at h
  · split_ifs at h
    · cases h; exact ⟨_, rfl, grows_ite (tickInit_grows nextAddressBit_grows s)⟩
    · cases h; exact ⟨_, rfl, grows_ite (tickInit_grows addressDone_grows s)⟩
  · cases h; exact ⟨_, rfl, grows_ite (tickInit_grows enterReady_grows s)⟩
  · cases h; exact ⟨_, rfl, grows_ite (tickInit_grows pulseLowDone_grows s)⟩
  · cases h; exact ⟨_, rfl, grows_ite (tickInit_grows pulseHighDone_grows s)⟩
  all_goals cases h

theorem acceptTick_grows (s : State) : ∃ t, acceptTick s = .next t ∧ Grows 0 s t := by
  cases hh : tickHandler s with
  | none => exact ⟨_, acceptTick_of_no_handler hh, tickDispatcher_grows s⟩
  | some i =>
    obtain ⟨u, hu, hg⟩ := tickHandler_grows hh
    refine ⟨tickDispatcher u, ?_, hg.then_quiet (tickDispatcher_grows u)⟩
    rw [acceptTick_of_handler hh, hu]
    rfl

/-- Whatever a step did from the state fetching left, the history only grew. -/
theorem StepCase.grows {u t : State} (h : StepCase u t) : ∃ n, Grows n u t := by
  cases h with
  | same h => exact ⟨0, h ▸ .refl u⟩
  | command i hi h =>
    rcases exec_command_cases hi u with ⟨-, he⟩ | ⟨t', he, hg⟩
    · cases he.symm.trans h; exact ⟨0, .refl u⟩
    · cases he.symm.trans h; exact ⟨1, hg⟩
  | block b h => exact ⟨0, h ▸ receive_grows b u⟩
  | tick hn h =>
    obtain ⟨t', he, hg⟩ := acceptTick_grows u
    cases he.symm.trans h
    exact ⟨0, hg⟩
  | ismWrite hs h =>
    unfold writeTx at h
    split at h
    · cases h
    · cases h; exact ⟨0, ismWrite_grows u⟩
  | dispatch he h => exact ⟨0, h ▸ dispatch_grows u⟩
  | transportOpen b h => exact ⟨0, h ▸ .of_eq rfl rfl⟩
  | reset h => exact ⟨0, h ▸ .of_eq rfl rfl⟩

end Sys2Proof.Machine

namespace Sys2Proof.Proofs

open Machine

/-- Settles O30: the request meets none of the refusals of R201. -/
theorem sendServiceEnqueues : Obligations.SendServiceEnqueues := by
  unfold Obligations.SendServiceEnqueues
  intro s sid payload hfit hready hroom hmode
  exact congrArg Host.Outcome.next (acceptRequest_of_accepted sid hfit hready hroom hmode)

/-- Settles O32: each command calls the same acceptance as its request, the memory commands with the built payload. -/
theorem convenienceCommandsExpand : Obligations.ConvenienceCommandsExpand := by
  unfold Obligations.ConvenienceCommandsExpand
  intro s address size data
  exact ⟨rfl, rfl, rfl,
    fun h => exec_readMemory_of_read (MemReqPayload.read_of_widths _ _ _ h.1 h.2),
    exec_readMemory_of_other_widths,
    fun h => exec_writeMemory_of_write (MemReqPayload.write_of_width _ _ _ h),
    exec_writeMemory_of_other_width⟩

/-- Settles O33: each command is its request, and that one is accepted. -/
theorem convenienceCommandsEnqueue : Obligations.ConvenienceCommandsEnqueue := by
  unfold Obligations.ConvenienceCommandsEnqueue
  intro s i sid payload hi hfit hready hroom hmode
  have hsend : exec i s = exec (.sendService sid payload) s := by
    rcases hi with ⟨rfl, rfl, rfl⟩ | ⟨rfl, rfl, rfl⟩ | ⟨rfl, rfl, rfl⟩ | ⟨address, size, rfl, rfl, hb⟩ |
      ⟨address, data, rfl, rfl, hb⟩
    · rfl
    · rfl
    · rfl
    · exact exec_readMemory_of_read hb
    · exact exec_writeMemory_of_write hb
  rw [hsend]
  exact sendServiceEnqueues s sid payload hfit hready hroom hmode

/-- Settles O41: each of the rows has the frame's bytes, and receiving these resolves the request. -/
theorem positiveResponseResolves : Obligations.PositiveResponseResolves := by
  unfold Obligations.PositiveResponseResolves
  intro s hdr sid p i hp hneg hpend hsid hi
  have hbytes : encode i = some (.inbound, buildFrame hdr sid p) := by
    rcases hi with rfl | rfl | rfl | ⟨rfl, rfl⟩ | ⟨rfl, rfl⟩ | ⟨rfl, rfl⟩
    · rfl
    · rfl
    · simp only [encode, buildFrame, frameBody, List.cons_append]
    · rfl
    · rfl
    · rfl
  rw [exec_inbound i _ s hbytes, receive_awaited (decodeFrame_buildFrame_service hdr hp hneg) hpend hsid]
  simp only [resolveWith, State.emit, State.resultDtcs, List.append_assoc, List.cons_append, List.nil_append]

/-- Settles O52: the only commands that are not acknowledged once are memory commands of other widths. -/
theorem everyCommandIsAcknowledgedOnce : Obligations.EveryCommandIsAcknowledgedOnce := by
  unfold Obligations.EveryCommandIsAcknowledgedOnce
  intro s i hi hread hwrite
  rcases exec_command_cases hi s with ⟨hw, -⟩ | ⟨t, he, hg⟩
  · rcases hw with ⟨address, size, rfl, h⟩ | ⟨address, data, rfl, h⟩
    · exact absurd (hread address size rfl) h
    · exact absurd (hwrite address data rfl) h
  · obtain ⟨os, ho, hn⟩ := hg.outputs
    exact ⟨t, os, he, ho, hn⟩

/-- Settles O53: every case of a step only grows the history, and fetching changes neither it nor the configuration. -/
theorem stepAppendsOutputsAndKeepsCfg : Obligations.StepAppendsOutputsAndKeepsCfg := by
  unfold Obligations.StepAppendsOutputsAndKeepsCfg
  intro s t h
  obtain ⟨p, i, hc⟩ := step_cases h
  obtain ⟨n, hg⟩ := hc.grows
  exact ⟨hg.outputs_prefix, hg.cfg⟩

end Sys2Proof.Proofs
end

section
/-! The invariant of the machine (R38): at reset, kept by every operation of a step, and so true of every reachable
state: what the obligations O48 to O50 rest on. In the proofs `{ h with … }` carries over what an operation does not touch: a
clause about fields that are not written is the same clause of the next state. -/

namespace Sys2Proof.Machine

/-! ### What holds while the SD is at rest -/

/-- What the invariant says of a state with nothing pending and nothing queued, whatever the ISM's state and timer: all
that an operation of the ISM needs to fail (R159). -/
structure AtRest (s : State) : Prop where
  cfg : s.cfg.wf
  pendingValid : s.pendingValid = false
  queue : s.queue = []
  respTimer : s.respTimer = 0#16
  bitIdx : s.bitIdx ≤ 9#4
  txFrame : s.txFrame.wf = true ∧ s.txFrame.inTxFrame = true

/-- What holds within an initialization between two of its states, from the acceptance of `START_INIT` on: `ecu_addr` is
written, no failure is recorded, and no frame waits in `tx_frame` (R152, R155 to R162). -/
structure Underway (s : State) : Prop extends AtRest s where
  ecuAddr : s.ecuAddrWritten = true
  failReason : s.failReason = .none
  txLen : s.txLen = 0#9

/-- An initialization is neither before its start nor past its end (R22). -/
theorem ne_of_synchronizing {i : IsmState} (h : linkOf i = .synchronizing) :
    i ≠ .idle ∧ i ≠ .ready ∧ i ≠ .failed := by
  revert h
  cases i <;> decide

/-- The timed states belong to an initialization whose frame is not built yet (R22, R26). -/
theorem synchronizing_of_timed {i : IsmState} (h : timedState i = true) :
    linkOf i = .synchronizing ∧ i ≠ .sendingStartComm := by
  revert h
  cases i <;> decide

/-- While `Synchronizing` the SD makes no Transport call: `Dispatch` is a matter of `Ready` (I9, R210). -/
theorem dispatchEnabled_of_synchronizing {s : State} (h : s.linkState = .synchronizing) :
    s.dispatchEnabled = false := by
  refine Bool.eq_false_iff.2 fun hd => ?_
  rw [(linkState_ready_iff s).2 ((dispatchEnabled_iff s).1 hd).1] at h
  cases h

theorem Inv.atRest {s : State} (h : Inv s) (hp : s.pendingValid = false) (hq : s.queue = []) : AtRest s where
  cfg := h.cfg
  pendingValid := hp
  queue := hq
  respTimer := not_not.1 fun hr => Bool.eq_false_iff.1 hp (h.spec.respTimer.1 hr)
  bitIdx := h.spec.bitIdx
  txFrame := h.buffers.txFrame

/-- Outside `Ready` the SD is at rest (I1, I2). -/
theorem Inv.atRest_of_not_ready {s : State} (h : Inv s) (hs : s.ismState ≠ .ready) : AtRest s :=
  h.atRest (h.spec.not_pending hs) (not_not.1 fun hq => hs (h.spec.queueReady hq))

/-- With the SD at rest the invariant is what it says of the ISM's state and its registers. -/
theorem AtRest.inv {s : State} (h : AtRest s) (htimer : s.initTimer ≠ 0#16 ↔ timedState s.ismState = true)
    (hwritten : s.ismState ≠ .idle →
      s.ecuAddrWritten = true ∨ (s.ismState = .failed ∧ s.failReason = .transportNotOpen))
    (hreason : s.failReason ≠ .none ↔ s.ismState = .failed)
    (hlen : s.ismState ≠ .sendingStartComm → s.txLen = 0#9)
    (hframe : s.ismState = .sendingStartComm → s.txLen = 7#9 ∧
      s.txBytes =
        buildFrame ⟨s.cfg.formatByte, s.ecuAddr, s.cfg.testerAddr⟩ s.cfg.sidStartComm [s.cfg.sessionType]) :
    Inv s where
  cfg := h.cfg
  spec :=
    { pendingReady := by simp [h.pendingValid]
      queueReady := by simp [h.queue]
      respTimer := by simp [h.pendingValid, h.respTimer]
      initTimer := htimer
      ecuAddr := hwritten
      bitIdx := h.bitIdx
      queueBound := by simp [h.queue]
      failReason := hreason
      sdSilent := dispatchEnabled_of_synchronizing
      guardOpen := by simp [h.pendingValid] }
  buffers :=
    { txFrame := h.txFrame
      txLen := hlen
      startComm := hframe
      requests := by simp [h.queue]
      awaited := by simp [h.pendingValid] }

theorem AtRest.emit {s : State} (h : AtRest s) (o : Output) : AtRest (s.emit o) := { h with }

theorem AtRest.setBaudRate {s : State} (h : AtRest s) (bps : Rate) : AtRest (callSetBaudRate bps s) := { h with }

theorem AtRest.setLineState {s : State} (h : AtRest s) (low : Bool) : AtRest (callSetLineState low s) := { h with }

/-- Loading a frame that fits keeps `tx_frame` canonical and within its size (R28, R50). -/
theorem loadTx_keeps_txFrame {f : List Byte} {s : State} (hf : f.length ≤ Config.txFrameSize)
    (h : s.txFrame.wf = true ∧ s.txFrame.inTxFrame = true) :
    (loadTx f s).txFrame.wf = true ∧ (loadTx f s).txFrame.inTxFrame = true :=
  ⟨Memory.wf_writeBytes f _ 0 h.1, Memory.inTxFrame_writeBytes f _ 0 (by omega) h.2⟩

/-! ### The state after reset (R39, R330) -/

/-- The block's reset leads to the invariant from any registers. -/
theorem resetBlock_inv {s : State} (hc : s.cfg.wf) : Inv (resetBlock s) := by
  have hrest : AtRest (resetBlock s) := ⟨hc, rfl, rfl, rfl, (by decide : 0#4 ≤ 9#4), rfl, rfl⟩
  have hidle : (resetBlock s).ismState = .idle := rfl
  exact hrest.inv (iff_of_false (not_not.2 rfl) nofun) (absurd hidle) (iff_of_false (not_not.2 rfl) nofun)
    (fun _ => rfl) nofun

/-! ### Where the operations of the ISM lead -/

/-- The failure entry, for a reason of R293; only the open check fails before `ecu_addr` is written (R152, R159). -/
theorem failWith_inv {r : FailReason} {s : State} (h : AtRest s) (hr : r ≠ .none)
    (hw : s.ecuAddrWritten = true ∨ r = .transportNotOpen) : Inv (failWith r s) := by
  have hrest : AtRest (failWith r s) := { h with }
  exact hrest.inv (by simp [timedState]) (fun _ => hw.imp_right fun hopen => ⟨rfl, hopen⟩) (by simpa using hr)
    (fun _ => rfl) nofun

/-- An initialization in a timed state with its timer loaded. -/
theorem Underway.inv_of_timed {s : State} (h : Underway s) (hs : timedState s.ismState = true)
    (ht : s.initTimer ≠ 0#16) : Inv s := by
  obtain ⟨hsync, hbuilt⟩ := synchronizing_of_timed hs
  obtain ⟨-, -, hfailed⟩ := ne_of_synchronizing hsync
  exact h.toAtRest.inv (iff_of_true ht hs) (fun _ => .inl h.ecuAddr)
    (iff_of_false (not_not.2 h.failReason) hfailed) (fun _ => h.txLen) fun he => absurd he hbuilt

/-- An initialization that is complete (R157, R176). -/
theorem enterReady_inv {s : State} (h : Underway s) (ht : s.initTimer = 0#16) : Inv (enterReady s) := by
  have hrest : AtRest (enterReady s) := { h with }
  exact hrest.inv (by simp [timedState, ht]) (fun _ => .inl h.ecuAddr) (by simp [h.failReason]) (fun _ => h.txLen) nofun

/-- An initialization whose StartCommunication frame is built; a well-formed configuration has room for it (R162). -/
theorem loadStartComm_inv {s : State} (h : Underway s) (ht : s.initTimer = 0#16) : Inv (loadStartComm s) := by
  obtain ⟨-, -, -, -, -, -, -, -, -, hroom⟩ := h.cfg
  have hbytes := loadStartComm_txBytes s hroom
  rw [loadStartComm_of_room s hroom] at hbytes ⊢
  have hfits : (buildFrame ⟨s.cfg.formatByte, s.ecuAddr, s.cfg.testerAddr⟩ s.cfg.sidStartComm
      [s.cfg.sessionType]).length ≤ Config.txFrameSize := by simp [Config.txFrameSize]
  refine AtRest.inv { h with txFrame := loadTx_keeps_txFrame hfits h.txFrame } ?_ (fun _ => .inl h.ecuAddr) ?_
    (fun hn => absurd rfl hn) fun _ => ⟨?_, hbytes⟩
  · simp [timedState, ht]
  · simp [h.failReason]
  · simp

/-- A call whose answer decides between going on and the failure entry (R159). -/
theorem inv_of_call {ok : Bool} {r : FailReason} {called further : State} (h : Underway called) (hr : r ≠ .none)
    (hf : Inv further) : Inv (if ok then further else failWith r called) := by
  split
  · exact hf
  · exact failWith_inv h.toAtRest hr (.inl h.ecuAddr)

/-! ### The operations of the ISM, within an initialization -/

theorem beginFiveBaud_inv {s : State} (h : Underway s) : Inv (beginFiveBaud s) := by
  obtain ⟨hbit, -⟩ := h.cfg
  exact inv_of_call { h with bitIdx := by simp } nofun
    (Underway.inv_of_timed { h with bitIdx := by simp } rfl hbit)

theorem beginFast_inv {s : State} (h : Underway s) : Inv (beginFast s) := by
  obtain ⟨-, -, hlow, -⟩ := h.cfg
  exact inv_of_call { h with } nofun (Underway.inv_of_timed { h with } rfl hlow)

theorem nextAddressBit_inv {s : State} (h : Underway s) (hs : s.ismState = .sendingAddress) (hb : s.bitIdx < 9#4) :
    Inv (nextAddressBit s) := by
  obtain ⟨hbit, -⟩ := h.cfg
  have hnext : s.bitIdx + 1#4 ≤ 9#4 := by bv_omega
  exact inv_of_call { h with bitIdx := hnext } nofun
    (Underway.inv_of_timed { h with bitIdx := hnext } (congrArg timedState hs) hbit)

theorem addressDone_inv {s : State} (h : Underway s) : Inv (addressDone s) := by
  obtain ⟨-, hsettle, -⟩ := h.cfg
  exact inv_of_call { h with } nofun (Underway.inv_of_timed { h with } rfl hsettle)

theorem pulseLowDone_inv {s : State} (h : Underway s) : Inv (pulseLowDone s) := by
  obtain ⟨-, -, -, hhigh, -⟩ := h.cfg
  exact inv_of_call { h with } nofun (Underway.inv_of_timed { h with } rfl hhigh)

theorem pulseHighDone_inv {s : State} (h : Underway s) (ht : s.initTimer = 0#16) : Inv (pulseHighDone s) := by
  have hcalled : Underway (callSetBaudRate s.cfg.baudSteady s) := { h with }
  exact inv_of_call hcalled nofun (loadStartComm_inv hcalled ht)

/-- The expiry of `init_timer` (R151): in each timed state the next one is entered, or the run fails. -/
theorem onExpiry_inv {s : State} (h : Underway s) (hs : timedState s.ismState = true) (ht : s.initTimer = 0#16) :
    Inv (onExpiry s s) := by
  cases he : s.ismState with
  | sendingAddress =>
    by_cases hb : s.bitIdx < 9#4
    · simp only [onExpiry, he, hb, if_true]
      exact nextAddressBit_inv h he hb
    · simp only [onExpiry, he, hb, if_false]
      exact addressDone_inv h
  | awaitingSync =>
    simp only [onExpiry, he]
    exact enterReady_inv h ht
  | pulseLow =>
    rw [onExpiry_pulseLow he]
    exact pulseLowDone_inv h
  | pulseHigh =>
    simp only [onExpiry, he]
    exact pulseHighDone_inv h ht
  | _ => simp [he, timedState] at hs

/-! ### The operations of the ISM, from a state of the invariant -/

/-- Within `Synchronizing` an initialization is underway, but for a frame that may wait in `tx_frame` (I5, I8). -/
theorem Inv.underway_of_synchronizing {s : State} (h : Inv s) (hs : s.linkState = .synchronizing) :
    Underway { s with txLen := 0#9 } := by
  obtain ⟨hidle, hready, hfailed⟩ := ne_of_synchronizing hs
  exact
    { h.atRest_of_not_ready hready with
      ecuAddr := (h.spec.ecuAddr hidle).resolve_right fun he => hfailed he.1
      failReason := not_not.1 (mt h.spec.failReason.1 hfailed)
      txLen := rfl }

/-- In a timed state no frame waits (R28). -/
theorem Inv.underway_of_timed {s : State} (h : Inv s) (hs : timedState s.ismState = true) : Underway s := by
  obtain ⟨hsync, hbuilt⟩ := synchronizing_of_timed hs
  exact { h.underway_of_synchronizing hsync with txLen := h.buffers.txLen hbuilt }

/-- A Tick of `init_timer` counts, or is its expiry (R11). -/
theorem tickInit_inv {s : State} (h : Inv s) (hs : timedState s.ismState = true) : Inv (tickInit (onExpiry s) s) := by
  have hu : Underway s := h.underway_of_timed hs
  rcases tickInit_cases (onExpiry s) s with ⟨-, he⟩ | ⟨h1, he⟩
  · rw [he]
    exact onExpiry_inv (s := { s with initTimer := 0#16 }) { hu with } hs rfl
  · rw [he]
    exact Underway.inv_of_timed { hu with } hs (countDown_ne_zero (h.spec.initTimer.2 hs) h1)

/-- The write of the StartCommunication frame ends the initialization, in `Ready` or in `Failed` (R176). -/
theorem ismWrite_inv {s : State} (h : Inv s) (hs : s.ismState = .sendingStartComm) : Inv (ismWrite s) := by
  have hsync : s.linkState = .synchronizing := congrArg linkOf hs
  have hsent : Underway (sendTx s) := { h.underway_of_synchronizing hsync with }
  have htimer : s.initTimer = 0#16 := not_not.1 (mt h.spec.initTimer.1 (by simp [hs, timedState]))
  exact inv_of_call hsent nofun (enterReady_inv hsent htimer)

/-! ### The operations of the SD -/

/-- An output is no register. -/
theorem Inv.emit {s : State} (h : Inv s) (o : Output) : Inv (s.emit o) :=
  ⟨h.cfg, { h.spec with }, { h.buffers with }⟩

/-- The resolution leaves nothing pending (R227). -/
theorem resolveWith_inv {s : State} (h : Inv s) (r : RequestResult) : Inv (resolveWith r s) where
  cfg := h.cfg
  spec :=
    { h.spec with
      pendingReady := nofun
      respTimer := by simp
      sdSilent := dispatchEnabled_of_synchronizing
      guardOpen := nofun }
  buffers := { h.buffers with awaited := nofun }

/-- A request is refused, or enqueued where the queue has room for it (R201). -/
theorem acceptRequest_inv {s : State} (h : Inv s) (sid : Byte) (p : List Byte) : Inv (acceptRequest sid p s) := by
  rcases acceptRequest_cases sid p s with ⟨e, -, he⟩ | ⟨hfit, hready, hroom, hmode, he⟩
  · rw [he]
    exact h.emit _
  · rw [he]
    have hdepth : (s.queue ++ [requestOf s.cfg sid p]).length ≤ s.cfg.queueDepth := by
      have hbound := h.spec.queueBound.1
      rw [List.length_append, List.length_singleton]
      omega
    have hrequests : ∀ r ∈ s.queue ++ [requestOf s.cfg sid p],
        r = requestOf s.cfg r.serviceId r.payload ∧ r.payload.length ≤ s.cfg.maxPayload.toNat := by
      intro r hr
      rcases List.mem_append.1 hr with hr | hr
      · exact h.buffers.requests r hr
      · cases List.mem_singleton.1 hr
        exact ⟨rfl, hfit⟩
    have hqueued : Inv { s with queue := s.queue ++ [requestOf s.cfg sid p] } :=
      ⟨h.cfg,
        { h.spec with
          queueReady := fun _ => hready
          queueBound := ⟨hdepth, fun hr => by simp [(hmode hr).2]⟩
          sdSilent := dispatchEnabled_of_synchronizing },
        { h.buffers with requests := hrequests }⟩
    exact hqueued.emit _

theorem acceptBuilt_inv {s : State} (h : Inv s) (sid : Byte) (payload : Option (List Byte)) :
    Inv (acceptBuilt sid payload s) := by
  rcases acceptBuilt_cases sid payload s with ⟨-, he⟩ | ⟨p, -, he⟩
  · rw [he]; exact h
  · rw [he]; exact acceptRequest_inv h sid p

/-- Without its head the queue is still within its bounds (I7, R210). -/
theorem Inv.dequeue {s : State} {req : ServiceRequest} {rest : List ServiceRequest} (h : Inv s)
    (hq : s.queue = req :: rest) : Inv { s with queue := rest } := by
  have hready : s.ismState = .ready := h.spec.queueReady (by simp [hq])
  obtain ⟨hdepth, hmode⟩ := h.spec.queueBound
  rw [hq, List.length_cons] at hdepth hmode
  have hrequests := h.buffers.requests
  rw [hq] at hrequests
  exact
    ⟨h.cfg,
      { h.spec with
        queueReady := fun _ => hready
        queueBound := ⟨Nat.le_of_succ_le hdepth, fun hr => Nat.le_of_succ_le (hmode hr)⟩
        sdSilent := dispatchEnabled_of_synchronizing },
      { h.buffers with requests := fun r hr => hrequests r (List.mem_cons_of_mem req hr) }⟩

/-- In `Ready` a frame that fits is built in `tx_frame` and written from it (R57, R210). -/
theorem sendTx_loadTx_inv {s : State} {f : List Byte} (h : Inv s) (hready : s.ismState = .ready)
    (hf : f.length ≤ Config.txFrameSize) : Inv (sendTx (loadTx f s)) where
  cfg := h.cfg
  spec := { h.spec with }
  buffers :=
    { h.buffers with
      txFrame := by simpa using loadTx_keeps_txFrame hf h.buffers.txFrame
      txLen := fun _ => rfl
      startComm := by simp [hready] }

/-- The written request is awaited, or done (R210 to R212); the request of testerPresent is never awaited (R345). -/
theorem afterWrite_inv {s : State} {req : ServiceRequest} (h : Inv s) (hready : s.ismState = .ready)
    (hguard : s.guardTimer = 0#16) (hreq : req = requestOf s.cfg req.serviceId req.payload) (ok : Bool) :
    Inv (afterWrite req ok s) := by
  unfold afterWrite
  split
  · exact (resolveWith_inv h _).emit _
  · split
    · next hexp =>
      obtain ⟨-, -, -, -, -, htimeout, -⟩ := h.cfg
      have hsid : req.serviceId ≠ s.cfg.sidTesterPresent := by
        rw [hreq] at hexp
        exact of_decide_eq_true hexp
      exact
        ⟨h.cfg,
          { h.spec with
            pendingReady := fun _ => hready
            respTimer := iff_of_true htimeout rfl
            sdSilent := dispatchEnabled_of_synchronizing
            guardOpen := fun _ => hguard },
          { h.buffers with awaited := fun _ => hsid }⟩
    · exact resolveWith_inv h _

/-- An enabled `Dispatch` (R210). -/
theorem dispatch_inv {s : State} (h : Inv s) (hd : s.dispatchEnabled = true) : Inv (dispatch s) := by
  obtain ⟨hready, -, hne, hguard⟩ := (dispatchEnabled_iff s).1 hd
  obtain ⟨req, rest, hq⟩ := List.exists_cons_of_ne_nil hne
  obtain ⟨hreq, hfit⟩ := h.buffers.requests req (by simp [hq])
  obtain ⟨-, -, -, -, -, -, -, -, hmax, -⟩ := h.cfg
  rw [dispatch_cons s req rest hq hfit]
  refine afterWrite_inv (sendTx_loadTx_inv (h.dequeue hq) hready ?_) (by simpa using hready) (by simpa using hguard)
    (by simpa using hreq) _
  simp only [buildFrame_length, Config.txFrameSize]
  simp only [Config.maxPayload] at hmax
  omega

/-- An inbound block resolves the pending request or changes no register (R215 to R219). -/
theorem receive_inv {s : State} (h : Inv s) (b : List Byte) : Inv (receive b s) := by
  rcases receive_cases b s with ⟨k, he⟩ | ⟨-, r, he⟩
  · rw [he]; exact (h.emit _).emit _
  · rw [he]; exact resolveWith_inv (h.emit _) r

/-- The SD's part of a Tick (R225): while a request is pending the guard is at 0 (I10). -/
theorem tickDispatcher_inv {s : State} (h : Inv s) : Inv (tickDispatcher s) := by
  rcases tickDispatcher_cases s with ⟨hp, he⟩ | ⟨-, -, he⟩ | ⟨hp, h1, he⟩
  · rw [he]
    exact
      ⟨h.cfg,
        { h.spec with
          sdSilent := dispatchEnabled_of_synchronizing
          guardOpen := fun hp' => absurd hp' (Bool.eq_false_iff.1 hp) },
        { h.buffers with }⟩
  · rw [he]
    exact resolveWith_inv h _
  · rw [he]
    exact
      ⟨h.cfg,
        { h.spec with
          respTimer := iff_of_true (countDown_ne_zero (h.spec.respTimer.2 hp) h1) hp
          sdSilent := dispatchEnabled_of_synchronizing
          guardOpen := fun _ => by simp [h.spec.guardOpen hp] },
        { h.buffers with }⟩

/-! ### Commands -/

/-- `START_INIT` is refused, fails on the open check, or begins its variant (R152). -/
theorem startInit_inv {variant : State → State} (hv : ∀ u, Underway u → Inv (variant u)) {s : State} (h : Inv s)
    (mode : InitMode) (a : Byte) : Inv (startInit mode a variant s) := by
  rcases startInit_cases mode a variant s with ⟨-, he⟩ | ⟨-, hsd, -, he⟩ | ⟨hlink, hsd, -, he⟩
  · rw [he]
    exact h.emit _
  · rw [he]
    obtain ⟨hp, hq⟩ := (sdIdle_iff s).1 hsd
    exact failWith_inv { h.atRest hp hq with } nofun (.inr rfl)
  · rw [he]
    obtain ⟨hp, hq⟩ := (sdIdle_iff s).1 hsd
    have hbuilt : s.ismState ≠ .sendingStartComm := fun hs => hlink (congrArg linkOf hs)
    exact hv _
      { h.atRest hp hq with ecuAddr := rfl, failReason := rfl, txLen := h.buffers.txLen hbuilt }

/-- `CANCEL_INIT` ends an initialization in `Failed`, whatever its cleanup calls answer (R180). -/
theorem cancelInit_inv {s : State} (h : Inv s) : ∃ t, exec .cancelInit s = .next t ∧ Inv t := by
  refine ⟨_, rfl, ?_⟩
  split
  · exact h.emit _
  · next hsync =>
    have hu := h.underway_of_synchronizing (not_not.1 hsync)
    have hrest : AtRest s := { hu with }
    exact failWith_inv (((hrest.emit _).setBaudRate _).setLineState _) nofun (.inl (by simpa using hu.ecuAddr))

/-- `CANCEL_REQUEST` (R230). -/
theorem cancelRequest_inv {s : State} (h : Inv s) : ∃ t, exec .cancelRequest s = .next t ∧ Inv t := by
  refine ⟨_, rfl, ?_⟩
  split
  · exact h.emit _
  · exact resolveWith_inv (h.emit _) _

/-- Every command keeps the invariant (R100). -/
theorem exec_command_inv {i : Instr} (hi : isCommand i = true) {s : State} (h : Inv s) :
    ∃ t, exec i s = .next t ∧ Inv t := by
  cases i with
  | startInit5Baud a => exact ⟨_, rfl, startInit_inv (fun _ => beginFiveBaud_inv) h _ a⟩
  | startInitFast a => exact ⟨_, rfl, startInit_inv (fun _ => beginFast_inv) h _ a⟩
  | cancelInit => exact cancelInit_inv h
  | cancelRequest => exact cancelRequest_inv h
  | sendService sid p => exact ⟨_, rfl, acceptRequest_inv h sid p⟩
  | readDtcs => exact ⟨_, rfl, acceptRequest_inv h _ _⟩
  | clearDtcs => exact ⟨_, rfl, acceptRequest_inv h _ _⟩
  | testerPresent => exact ⟨_, rfl, acceptRequest_inv h _ _⟩
  | readMemory address size => exact ⟨_, rfl, acceptBuilt_inv h _ _⟩
  | writeMemory address data => exact ⟨_, rfl, acceptBuilt_inv h _ _⟩
  | _ => cases hi

/-! ### A step -/

/-- A Tick: the ISM's part in a timed state, and the SD's (R151, R225). -/
theorem acceptTick_inv {s : State} (h : Inv s) : ∃ t, acceptTick s = .next t ∧ Inv t := by
  cases hs : timedState s.ismState with
  | true => exact ⟨_, acceptTick_timed s hs h.spec.bitIdx, tickDispatcher_inv (tickInit_inv h hs)⟩
  | false => exact ⟨_, acceptTick_untimed s hs, tickDispatcher_inv h⟩

/-- The frame that waits is within `tx_frame`, so its write is no fault (R50; log 24). -/
theorem writeTx_inv {s : State} (h : Inv s) (hs : s.ismState = .sendingStartComm) :
    ∃ t, writeTx s = .next t ∧ Inv t := by
  obtain ⟨hlen, -⟩ := h.buffers.startComm hs
  exact ⟨ismWrite s, if_neg (by simp [hlen, Config.txFrameSize]), ismWrite_inv h hs⟩

/-- An outcome that is a state of the invariant is no other state. -/
theorem inv_of_next {o : StepOutcome} {t : State} (ho : ∃ t', o = .next t' ∧ Inv t') (h : o = .next t) : Inv t := by
  obtain ⟨t', he, ht'⟩ := ho
  cases he.symm.trans h
  exact ht'

/-- Whatever a step did from the state fetching left, the invariant is kept. -/
theorem StepCase.inv {u t : State} (hc : StepCase u t) (h : Inv u) : Inv t := by
  cases hc with
  | same he => exact he ▸ h
  | command i hi he => exact inv_of_next (exec_command_inv hi h) he
  | block b he => exact he ▸ receive_inv h b
  | tick hn he => exact inv_of_next (acceptTick_inv h) he
  | ismWrite hs he => exact inv_of_next (writeTx_inv h hs) he
  | dispatch hd he => exact he ▸ dispatch_inv h hd
  | transportOpen b he => exact he ▸ ⟨h.cfg, { h.spec with }, { h.buffers with }⟩
  | reset he => exact he ▸ resetBlock_inv h.cfg

/-- What the environment writes is no register of the block (R10, R14). -/
theorem Inv.environment {s : State} (h : Inv s) (e : Option Event) (i : List Instant) (a : List Bool) (isOpen : Bool) :
    Inv { s with presented := e, inputs := i, answers := a, tOpen := isOpen } :=
  ⟨h.cfg, { h.spec with }, { h.buffers with }⟩

/-- A step keeps the invariant. -/
theorem step_inv {s t : State} (h : Inv s) (hstep : step s = .next t) : Inv t := by
  obtain ⟨p, i, hc⟩ := step_cases hstep
  exact hc.inv (h.environment p i s.answers s.tOpen)

/-- Every reachable state meets the invariant. -/
theorem Reachable.inv {s : State} (h : Reachable s) : Inv s := by
  induction h with
  | start c hc isOpen baud low =>
    exact resetBlock_inv (s := { State.reset with cfg := c, tOpen := isOpen, tBaud := baud, tLineLow := low }) hc
  | step hs hstep ih => exact step_inv ih hstep
  | environment hs e i a isOpen ih => exact ih.environment e i a isOpen

end Sys2Proof.Machine

namespace Sys2Proof.Proofs

open Machine

/-- Settles O49: each case of a step keeps the invariant, and fetching writes no register. -/
theorem stepKeepsTheInvariant : Obligations.StepKeepsTheInvariant := by
  unfold Obligations.StepKeepsTheInvariant
  exact fun s t => step_inv

/-- Settles O50: by induction over the run, the invariant holds in every reachable state. -/
theorem reachableStatesMeetTheInvariants : Obligations.ReachableStatesMeetTheInvariants := by
  unfold Obligations.ReachableStatesMeetTheInvariants
  exact fun s h => ⟨h.inv.spec, h.inv.buffers.awaited⟩

/-- Settles O48: a state after reset is one where a run starts. -/
theorem resetMeetsTheInvariant : Obligations.ResetMeetsTheInvariant := by
  unfold Obligations.ResetMeetsTheInvariant
  exact fun c isOpen baud low hc => (Reachable.start c hc isOpen baud low).inv

end Sys2Proof.Proofs
end

section
/-! The frame a `Dispatch` writes, steps that write no frame, and the ticks of the guard: the rules the obligations O35,
O54 and O58 rest on. -/

namespace Sys2Proof.Machine

/-! ### The frame a `Dispatch` writes (R57, R86, R210) -/

/-- The checksum is what an 8-bit accumulator holds that drops its carries, from any start (R86, R120). -/
theorem foldl_add_eq_checksumOf (b : List Byte) (a : Byte) : b.foldl (· + ·) a = a + checksumOf b := by
  induction b generalizing a with
  | nil => simp
  | cons x r ih => rw [List.foldl_cons, ih, checksumOf_cons, BitVec.add_assoc]

/-- The frame of a request (R80, R210). -/
def requestFrame (s : State) (req : ServiceRequest) : List Byte :=
  buildFrame ⟨s.cfg.formatByte, s.ecuAddr, s.cfg.testerAddr⟩ req.serviceId req.payload

@[simp] theorem requestFrame_length (s : State) (req : ServiceRequest) :
    (requestFrame s req).length = 6 + req.payload.length := buildFrame_length _ _ _

/-- The frame byte by byte, the last the accumulated sum of those before it. -/
theorem requestFrame_eq (s : State) (req : ServiceRequest) :
    requestFrame s req =
      frameBody ⟨s.cfg.formatByte, s.ecuAddr, s.cfg.testerAddr⟩ req.serviceId req.payload ++
        [(frameBody ⟨s.cfg.formatByte, s.ecuAddr, s.cfg.testerAddr⟩ req.serviceId req.payload).foldl (· + ·)
          0x00#8] := by
  rw [foldl_add_eq_checksumOf, BitVec.zero_add]
  rfl

/-- A frame put into `tx_frame` and written from it (R57, R210). -/
theorem sendTx_loadTx {f : List Byte} (s : State) (hf : f.length < 512) :
    sendTx (loadTx f s) =
      { s with
        txFrame := s.txFrame.writeBytes 0 f, txLen := 0#9, answers := s.answers.tail, callNo := s.callNo + 1
        outputs := s.outputs ++ [.call (.write f s.answer)] } := by
  rw [sendTx, loadTx_txBytes f s hf]
  rfl

/-- After a successful write the response is awaited (R210). -/
theorem afterWrite_of_expected {req : ServiceRequest} (s : State) (h : req.expectsResponse = true) :
    afterWrite req true s =
      { s with pendingValid := true, pendingSid := req.serviceId, respTimer := s.cfg.tRespTimeout } := by
  simp only [afterWrite, h, Bool.not_true, Bool.false_eq_true, if_false, if_true]

/-- Each row that dispatches the head of the queue is an enabled `Dispatch` (R210, R235, R237; log 17). -/
theorem exec_dispatchRow {s : State} {i : Instr} {req : ServiceRequest} {rest : List ServiceRequest}
    (hd : s.dispatchEnabled = true) (hq : s.queue = req :: rest)
    (hi : i = .tauDispatch ∨ (i = .sidReadDtcs ∧ req = readDtcsRequest s.cfg) ∨
      (i = .sidTesterPresent ∧ req = testerPresentRequest s.cfg)) :
    exec i s = .next (dispatch s) := by
  rcases hi with rfl | ⟨rfl, rfl⟩ | ⟨rfl, rfl⟩
  · simp only [exec, execTauDispatch, hd, if_true]
  · simp only [exec, execSidReadDtcs, hd, hq, List.head?_cons, decide_true, Bool.and_self, if_true]
  · simp only [exec, execSidTesterPresent, hd, hq, List.head?_cons, decide_true, Bool.and_self, if_true]

/-- The frame of the head of the queue is written, and the request with it is on its way (R210 to R212). -/
theorem dispatch_head {s : State} {req : ServiceRequest} {rest : List ServiceRequest} (hq : s.queue = req :: rest)
    (hfit : req.payload.length ≤ s.cfg.maxPayload.toNat) :
    dispatch s =
      afterWrite req s.answer
        { s with
          queue := rest, txFrame := s.txFrame.writeBytes 0 (requestFrame s req), txLen := 0#9
          answers := s.answers.tail, callNo := s.callNo + 1
          outputs := s.outputs ++ [.call (.write (requestFrame s req) s.answer)] } := by
  have hlen : (requestFrame s req).length < 512 := by
    have hmax := s.cfg.maxPayload.isLt
    rw [requestFrame_length]
    omega
  exact (dispatch_cons s req rest hq hfit).trans
    (congrArg (afterWrite req s.answer) (sendTx_loadTx { s with queue := rest } hlen))

/-! ### Operations that write no frame (R61, R63) -/

/-- The history only grew, and by no `T.write`. -/
def WritesNothing (s t : State) : Prop :=
  ∃ os, t.outputs = s.outputs ++ os ∧ ∀ o ∈ os, isWrite o = false

namespace WritesNothing

theorem of_eq {s t : State} (h : t.outputs = s.outputs) : WritesNothing s t :=
  ⟨[], by rw [h, List.append_nil], nofun⟩

/-- One output that is no `T.write`, and registers written. -/
theorem of_output {s t : State} (o : Output) (hn : isWrite o = false) (h : t.outputs = s.outputs ++ [o]) :
    WritesNothing s t :=
  ⟨[o], h, by simp [hn]⟩

theorem trans {s t u : State} (h : WritesNothing s t) (h' : WritesNothing t u) : WritesNothing s u := by
  obtain ⟨os, ho, hn⟩ := h
  obtain ⟨os', ho', hn'⟩ := h'
  exact ⟨os ++ os', by rw [ho', ho, List.append_assoc], List.forall_mem_append.2 ⟨hn, hn'⟩⟩

/-- The outputs added are no `T.write`. -/
theorem newOutputs {s t : State} (h : WritesNothing s t) : ∀ o ∈ newOutputs s t, isWrite o = false := by
  obtain ⟨os, ho, hn⟩ := h
  rwa [Machine.newOutputs, ho, List.drop_left]

end WritesNothing

/-- No frame is written; and with nothing pending, nothing becomes pending and the guard is left alone (R62, R63). -/
structure Quiet (s t : State) : Prop where
  writes : WritesNothing s t
  guard : s.pendingValid = false → t.pendingValid = false ∧ t.guardTimer = s.guardTimer

namespace Quiet

/-- Registers of the ISM, the queue or the Transport written. -/
theorem of_eq {s t : State} (ho : t.outputs = s.outputs) (hp : t.pendingValid = s.pendingValid)
    (hg : t.guardTimer = s.guardTimer) : Quiet s t :=
  ⟨.of_eq ho, fun h => ⟨hp.trans h, hg⟩⟩

theorem refl (s : State) : Quiet s s := of_eq rfl rfl rfl

/-- Such registers written with one output that is no `T.write`. -/
theorem of_output {s t : State} (o : Output) (hn : isWrite o = false) (ho : t.outputs = s.outputs ++ [o])
    (hp : t.pendingValid = s.pendingValid) (hg : t.guardTimer = s.guardTimer) : Quiet s t :=
  ⟨.of_output o hn ho, fun h => ⟨hp.trans h, hg⟩⟩

theorem trans {s t u : State} (h : Quiet s t) (h' : Quiet t u) : Quiet s u := by
  refine ⟨h.writes.trans h'.writes, fun hp => ?_⟩
  obtain ⟨ht, hgt⟩ := h.guard hp
  obtain ⟨hu, hgu⟩ := h'.guard ht
  exact ⟨hu, hgu.trans hgt⟩

/-- One more output that is no `T.write`. -/
theorem emit {s t : State} (h : Quiet s t) (o : Output) (hn : isWrite o = false) : Quiet s (t.emit o) :=
  h.trans (.of_output o hn rfl rfl rfl)

/-- From a state with a request pending it is enough that no frame is written. -/
theorem of_pending {s t : State} (hp : s.pendingValid = true) (h : WritesNothing s t) : Quiet s t :=
  ⟨h, fun hn => absurd hp (Bool.eq_false_iff.1 hn)⟩

end Quiet

theorem resolveWith_writesNothing (r : RequestResult) (s : State) : WritesNothing s (resolveWith r s) :=
  .of_output (.result r) rfl rfl

theorem failWith_quiet (r : FailReason) (s : State) : Quiet s (failWith r s) :=
  .of_output (.notify (.failed r)) rfl rfl rfl rfl

theorem callSetBaudRate_quiet (bps : Rate) (s : State) : Quiet s (callSetBaudRate bps s) :=
  .of_output (.call (.setBaudRate bps s.answer)) rfl rfl rfl rfl

theorem callSetLineState_quiet (low : Bool) (s : State) : Quiet s (callSetLineState low s) :=
  .of_output (.call (.setLineState low s.answer)) rfl rfl rfl rfl

/-- A call whose answer decides between going on and the failure entry (R159). -/
theorem quiet_of_call {ok : Bool} {s called further : State} (r : FailReason) (hc : Quiet s called)
    (hf : Quiet called further) : Quiet s (if ok then further else failWith r called) := by
  split
  · exact hc.trans hf
  · exact hc.trans (failWith_quiet r called)

/-! ### Commands (R100) -/

theorem beginFiveBaud_quiet (s : State) : Quiet s (beginFiveBaud s) := by
  have hstart : Quiet s { s.emit (.status .startingFiveBaud) with bitIdx := 0#4 } :=
    .of_output (.status .startingFiveBaud) rfl rfl rfl rfl
  exact quiet_of_call _ (hstart.trans (callSetLineState_quiet true _)) (.of_eq rfl rfl rfl)

theorem beginFast_quiet (s : State) : Quiet s (beginFast s) :=
  quiet_of_call _ (callSetLineState_quiet true s) (.of_eq rfl rfl rfl)

theorem startInit_quiet {k : State → State} (hk : ∀ u, Quiet u (k u)) (mode : InitMode) (a : Byte) (s : State) :
    Quiet s (startInit mode a k s) := by
  rcases startInit_cases mode a k s with ⟨-, he⟩ | ⟨-, -, -, he⟩ | ⟨-, -, -, he⟩
  · rw [he]
    exact (Quiet.refl s).emit _ rfl
  · rw [he]
    have hopen : Quiet s (callIsOpen s) := (Quiet.refl s).emit _ rfl
    exact (hopen.emit _ rfl).trans (failWith_quiet _ _)
  · rw [he]
    have hregs : Quiet s { callIsOpen s with
        ecuAddr := a, ecuAddrWritten := true, initMode := mode, failReason := .none } :=
      .of_output (.call (.isOpen s.tOpen)) rfl rfl rfl rfl
    have hacc : Quiet s (accepted mode a s) := (hregs.emit (.ack .ok) rfl).emit (.notify .synchronizing) rfl
    exact hacc.trans (hk _)

theorem cancelInit_quiet (s : State) : ∃ t, exec .cancelInit s = .next t ∧ Quiet s t := by
  refine ⟨_, rfl, ?_⟩
  split
  · exact (Quiet.refl s).emit _ rfl
  · have hack : Quiet s (s.emit (.ack .ok)) := (Quiet.refl s).emit _ rfl
    exact ((hack.trans (callSetBaudRate_quiet _ _)).trans (callSetLineState_quiet _ _)).trans (failWith_quiet _ _)

/-- `CANCEL_REQUEST` loads the guard only where a request is pending (R230). -/
theorem cancelRequest_quiet (s : State) : ∃ t, exec .cancelRequest s = .next t ∧ Quiet s t := by
  refine ⟨_, rfl, ?_⟩
  have hack (v : AckValue) : Quiet s (s.emit (.ack v)) := (Quiet.refl s).emit _ rfl
  split
  · exact hack _
  · next hp =>
    have hpending : s.pendingValid = true := by simpa using hp
    exact .of_pending hpending ((hack .ok).writes.trans (resolveWith_writesNothing _ _))

theorem acceptRequest_quiet (sid : Byte) (p : List Byte) (s : State) : Quiet s (acceptRequest sid p s) := by
  rcases acceptRequest_cases sid p s with ⟨e, -, he⟩ | ⟨-, -, -, -, he⟩
  · rw [he]
    exact (Quiet.refl s).emit _ rfl
  · rw [he]
    have hqueue : Quiet s { s with queue := s.queue ++ [requestOf s.cfg sid p] } := .of_eq rfl rfl rfl
    exact hqueue.emit _ rfl

theorem acceptBuilt_quiet (sid : Byte) (payload : Option (List Byte)) (s : State) :
    Quiet s (acceptBuilt sid payload s) := by
  rcases acceptBuilt_cases sid payload s with ⟨-, he⟩ | ⟨p, -, he⟩
  · rw [he]; exact .refl s
  · rw [he]; exact acceptRequest_quiet sid p s

/-- No command writes a frame: a request is only enqueued, and an initialization begins with the line (R152, R201). -/
theorem exec_command_quiet {i : Instr} (hi : isCommand i = true) (s : State) :
    ∃ t, exec i s = .next t ∧ Quiet s t := by
  cases i with
  | startInit5Baud a => exact ⟨_, rfl, startInit_quiet beginFiveBaud_quiet _ a s⟩
  | startInitFast a => exact ⟨_, rfl, startInit_quiet beginFast_quiet _ a s⟩
  | cancelInit => exact cancelInit_quiet s
  | cancelRequest => exact cancelRequest_quiet s
  | sendService sid p => exact ⟨_, rfl, acceptRequest_quiet sid p s⟩
  | readDtcs => exact ⟨_, rfl, acceptRequest_quiet _ _ s⟩
  | clearDtcs => exact ⟨_, rfl, acceptRequest_quiet _ _ s⟩
  | testerPresent => exact ⟨_, rfl, acceptRequest_quiet _ _ s⟩
  | readMemory address size => exact ⟨_, rfl, acceptBuilt_quiet _ _ s⟩
  | writeMemory address data => exact ⟨_, rfl, acceptBuilt_quiet _ _ s⟩
  | _ => cases hi

/-- Whatever is presented at the command port, no frame is written. -/
theorem acceptCommand_quiet {bytes : List Byte} {s t : State} (h : acceptCommand bytes s = .next t) : Quiet s t := by
  unfold acceptCommand at h
  split at h
  · next i hi =>
    obtain ⟨t', he, hq⟩ := exec_command_quiet (decodeCommand_isCommand hi) s
    cases he.symm.trans h
    exact hq
  · cases h
    exact .refl s

/-! ### A step in `Ready` without `Dispatch` (R62, R63) -/

/-- An inbound block loads the guard only where a request is pending (R215 to R219). -/
theorem receive_quiet (b : List Byte) (s : State) : Quiet s (receive b s) := by
  have hraw : Quiet s (s.emit (.rawRx b)) := (Quiet.refl s).emit _ rfl
  rcases receive_cases b s with ⟨k, he⟩ | ⟨hp, r, he⟩
  · rw [he]
    exact hraw.emit _ rfl
  · rw [he]
    exact .of_pending hp (hraw.writes.trans (resolveWith_writesNothing r _))

theorem tickDispatcher_writesNothing (s : State) : WritesNothing s (tickDispatcher s) := by
  rcases tickDispatcher_cases s with ⟨-, he⟩ | ⟨-, -, he⟩ | ⟨-, -, he⟩
  · rw [he]; exact .of_eq rfl
  · rw [he]; exact resolveWith_writesNothing _ s
  · rw [he]; exact .of_eq rfl

/-- In `Ready` with `Dispatch` not enabled an event is a Tick of the SD, the block's reset, or quiet. -/
theorem accept_ready_cases {e : Event} {s t : State} (hr : s.ismState = .ready) (hd : s.dispatchEnabled = false)
    (h : accept e s = .next t) :
    Quiet s t ∨ (e = .tick ∧ t = tickDispatcher s) ∨ (e = .reset ∧ t = resetBlock s) := by
  cases e with
  | cmd bytes => exact .inl (acceptCommand_quiet h)
  | rx b =>
    cases (exec_decodeBlock _ b s).symm.trans h
    exact .inl (receive_quiet b s)
  | tick =>
    cases (acceptTick_untimed s (by rw [hr]; rfl)).symm.trans h
    exact .inr (.inl ⟨rfl, rfl⟩)
  | tau =>
    have hsame : acceptTau s = .next s :=
      (acceptTau_of_not_sendingStartComm (by simp [hr])).trans (exec_tauDispatch_of_disabled hd)
    cases hsame.symm.trans h
    exact .inl (.refl s)
  | transportOpen b => cases h; exact .inl (.of_eq rfl rfl rfl)
  | reset => cases h; exact .inr (.inr ⟨rfl, rfl⟩)

/-- A step is the event fetched, processed from the state fetching left, or with no event that state (R10, R296). -/
theorem step_fetch_cases {s t : State} (h : step s = .next t) :
    ∃ p i, ((fetch s).1 = none ∧ t = { s with presented := p, inputs := i }) ∨
      ∃ e, (fetch s).1 = some e ∧ accept e { s with presented := p, inputs := i } = .next t := by
  obtain ⟨p, i, hf⟩ := fetch_frame s
  refine ⟨p, i, ?_⟩
  rw [← hf]
  unfold step at h
  split at h
  · next e u he => rw [he]; exact .inr ⟨e, rfl, h⟩
  · next u he => rw [he]; cases h; exact .inl ⟨rfl, rfl⟩

/-- In `Ready` with `Dispatch` not enabled a step writes no frame; with nothing pending the guard stays, is counted down
by a Tick, or goes with the block's reset. -/
theorem step_ready_cases {s t : State} (hr : s.ismState = .ready) (hd : s.dispatchEnabled = false)
    (h : step s = .next t) :
    WritesNothing s t ∧
      (s.pendingValid = false →
        t.guardTimer = s.guardTimer ∨
          ((fetch s).1 = some .tick ∧ t.guardTimer = countDown s.guardTimer) ∨
          ((fetch s).1 = some .reset ∧ t.ismState = .idle)) := by
  obtain ⟨p, i, ⟨-, rfl⟩ | ⟨e, he, hacc⟩⟩ := step_fetch_cases h
  · exact ⟨.of_eq rfl, fun _ => .inl rfl⟩
  · rcases accept_ready_cases (s := { s with presented := p, inputs := i }) hr hd hacc with
      hq | ⟨rfl, rfl⟩ | ⟨rfl, rfl⟩
    · exact ⟨hq.writes, fun hp => .inl (hq.guard hp).2⟩
    · refine ⟨tickDispatcher_writesNothing { s with presented := p, inputs := i }, fun hp => .inr (.inl ⟨he, ?_⟩)⟩
      rw [tickDispatcher_idle (by exact hp)]
    · exact ⟨.of_eq rfl, fun _ => .inr (.inr ⟨he, rfl⟩)⟩

/-! ### The ticks of the guard (R11, R225) -/

/-- `Dispatch` waits for the response (R210). -/
theorem dispatchEnabled_of_pending {s : State} (h : s.pendingValid = true) : s.dispatchEnabled = false := by
  simp [State.dispatchEnabled, h]

/-- `Dispatch` waits for the guard (R210). -/
theorem dispatchEnabled_of_guard {s : State} (h : s.guardTimer ≠ 0#16) : s.dispatchEnabled = false := by
  simp [State.dispatchEnabled, State.guardOpen, h]

/-- In `Ready` with nothing pending and the guard running, a Tick counts the guard and nothing else (R225). -/
theorem step_tick_of_guard {s : State} (hr : s.ismState = .ready) (hp : s.pendingValid = false)
    (hg : s.guardTimer ≠ 0#16) :
    step (s.present .tick) = .next (waited s none (s.guardTimer - 1#16) s.initTimer) := by
  have htau : s.tauEnabled = false := by
    simp [State.tauEnabled, State.ismWriteEnabled, hr, dispatchEnabled_of_guard hg]
  have huntimed : timedState s.ismState = false := by rw [hr]; rfl
  rw [step_tick s htau, acceptTick_untimed { s with presented := none } huntimed, tickDispatcher_idle (by exact hp),
    countDown_of_ne_zero hg]
  rfl

/-- Up to its end the guard loses one by each Tick, and nothing else changes. -/
theorem ticks_guard (k : Nat) {s : State} (hr : s.ismState = .ready) (hp : s.pendingValid = false)
    (hk : k ≤ s.guardTimer.toNat) :
    ∃ p g, ticks k s = .next (waited s p g s.initTimer) ∧ g.toNat = s.guardTimer.toNat - k := by
  induction k generalizing s with
  | zero => exact ⟨s.presented, s.guardTimer, rfl, rfl⟩
  | succ k ih =>
    have hg : s.guardTimer ≠ 0#16 := by bv_omega
    have hdec : (s.guardTimer - 1#16).toNat = s.guardTimer.toNat - 1 := by bv_omega
    obtain ⟨p, g, he, hleft⟩ := ih (s := waited s none (s.guardTimer - 1#16) s.initTimer) hr hp
      (show k ≤ (s.guardTimer - 1#16).toNat by omega)
    refine ⟨p, g, ?_, ?_⟩
    · simp only [ticks, step_tick_of_guard hr hp hg, andThen]
      exact he
    · have hleft' : g.toNat = (s.guardTimer - 1#16).toNat - k := hleft
      omega

end Sys2Proof.Machine

namespace Sys2Proof.Proofs

open Machine

/-- Settles O35: each row is the enabled `Dispatch`, whose frame is loaded into `tx_frame` at index 0 and written. -/
theorem dispatchWritesAndAwaits : Obligations.DispatchWritesAndAwaits := by
  unfold Obligations.DispatchWritesAndAwaits
  intro s req rest i hr hp hg hq hfit hexp ha hi
  have hd : s.dispatchEnabled = true := (dispatchEnabled_iff s).2 ⟨hr, hp, by simp [hq], hg⟩
  refine ⟨s.txFrame.writeBytes 0 (requestFrame s req), _, _, rfl, rfl, ?_, ?_, Memory.wf_writeBytes _ _ _,
    fun a h => Memory.read_writeBytes_outside _ _ _ _ (.inr (by simpa using h))⟩
  · rw [exec_dispatchRow hd hq (hi.imp_right .inl), dispatch_head hq hfit, ha, afterWrite_of_expected _ hexp,
      requestFrame_eq]
    rfl
  · rw [← requestFrame_length s req, Memory.readBytes_writeBytes, requestFrame_eq]
    rfl

/-- Settles O54: a pending request keeps the link in `Ready` (I1) and `Dispatch` from being enabled, and then no step
writes. -/
theorem noWriteWhileARequestIsPending : Obligations.NoWriteWhileARequestIsPending := by
  unfold Obligations.NoWriteWhileARequestIsPending
  intro s t hi hp h
  exact (step_ready_cases (hi.spec.pendingReady hp) (dispatchEnabled_of_pending hp) h).1.newOutputs

/-- Settles O58: the guard counts by `ticks_guard` to 0, which enables `Dispatch`; while it runs nothing is pending
(I10), and a step is one of those of `step_ready_cases`. -/
theorem guardSeparatesRequests : Obligations.GuardSeparatesRequests := by
  unfold Obligations.GuardSeparatesRequests
  intro s hi hr
  refine ⟨fun hp hq => ⟨fun k hk => ?_, ?_⟩, fun t hg h => ?_⟩
  · obtain ⟨p, g, he, hleft⟩ := ticks_guard k hr hp hk.le
    have hrunning : g ≠ 0#16 := by bv_omega
    exact ⟨_, he, rfl, dispatchEnabled_of_guard hrunning⟩
  · obtain ⟨p, g, he, hleft⟩ := ticks_guard s.guardTimer.toNat hr hp le_rfl
    have hover : g = 0#16 := by bv_omega
    exact ⟨_, he, rfl, rfl, (dispatchEnabled_iff _).2 ⟨hr, hp, hq, hover⟩⟩
  · have hp : s.pendingValid = false := Bool.eq_false_iff.2 fun hp => hg (hi.spec.guardOpen hp)
    obtain ⟨hw, hguard⟩ := step_ready_cases hr (dispatchEnabled_of_guard hg) h
    rw [countDown_of_ne_zero hg] at hguard
    exact ⟨hw.newOutputs, hguard hp⟩

end Sys2Proof.Proofs
end

section
/-! Decoding against encoding, both ways: the rules the obligations O1 to O4 rest on. -/

namespace Sys2Proof

open Machine

/-! ### Commands and request rows (R95, R100) -/

/-- The memory commands are read back where the address has the width the configuration splits at (log 4). -/
theorem decodeCommand_readMemory_append (c : Cfg) {address : List Byte} (size : List Byte)
    (h : address.length = c.memReqPayload.addressBytes) :
    decodeCommand c (0x14#8 :: (address ++ size)) = .ok (.readMemory address size) := by
  rw [decodeCommand_readMemory, ← h, List.take_left, List.drop_left]

theorem decodeCommand_writeMemory_append (c : Cfg) {address : List Byte} (data : List Byte)
    (h : address.length = c.memReqPayload.addressBytes) :
    decodeCommand c (0x15#8 :: (address ++ data)) = .ok (.writeMemory address data) := by
  rw [decodeCommand_writeMemory, ← h, List.take_left, List.drop_left]

/-- `SEND_SERVICE` is read back where its length bytes can count the payload (R100). -/
theorem decodeCommand_sendService (c : Cfg) (sid : Byte) {payload : List Byte} (h : payload.length < 65536) :
    decodeCommand c (0x10#8 :: sid :: byte (payload.length / 256) :: byte payload.length :: payload) =
      .ok (.sendService sid payload) := by
  refine decodeCommand_of_prefix ?_
  simpa [decodeCommandPrefix] using takeSendService_append sid payload [] h

/-- Decoding the bytes of a well-formed command gives it back. -/
theorem decodeCommand_encode {c : Cfg} {i : Instr} {bytes : List Byte} (hwf : i.wf c = true)
    (h : encode i = some (.commandPort, bytes)) : decodeCommand c bytes = .ok i := by
  cases i with
  | sendService sid payload =>
    cases h
    have hlen : payload.length ≤ 65535 := of_decide_eq_true hwf
    exact decodeCommand_sendService c sid (by omega)
  | readMemory address size =>
    cases h
    obtain ⟨ha, -⟩ := Bool.and_eq_true_iff.1 hwf
    exact decodeCommand_readMemory_append c size (of_decide_eq_true ha)
  | writeMemory address data =>
    cases h
    exact decodeCommand_writeMemory_append c data (of_decide_eq_true hwf)
  | startInit5Baud _ | startInitFast _ | cancelInit | cancelRequest | readDtcs | clearDtcs | testerPresent =>
    cases h
    rfl
  | _ => cases h

/-- The command read from a presentation has exactly its bytes. -/
theorem encode_of_decodeCommand {c : Cfg} {bytes : List Byte} {i : Instr} (h : decodeCommand c bytes = .ok i) :
    encode i = some (.commandPort, bytes) := by
  unfold decodeCommand at h
  split at h
  · next j hj =>
    cases h
    obtain ⟨own, hbytes, he, -⟩ := decodeCommandPrefix_ok hj
    rw [hbytes, List.append_nil]
    exact he
  · cases h
  · cases h

/-- A request row is read from its SID byte and from nothing else. -/
theorem decodeRequestSid_iff (i : Instr) (bytes : List Byte) :
    decodeRequestSid bytes = .ok i ↔ encode i = some (.requestSid, bytes) := by
  constructor
  · intro h
    unfold decodeRequestSid at h
    split at h
    · cases h
    · split_ifs at h with h1 h2 h3
      · cases h; rw [h1]; rfl
      · cases h; rw [h2]; rfl
      · cases h; rw [h3]; rfl
    · cases h
  · intro h
    cases i with
    | sidReadDtcs | sidTesterPresent | sidStartCommunication => cases h; rfl
    | _ => cases h

/-! ### Inbound rows (R80, R88, R89) -/

/-- A SID without a row of its own (R95). -/
theorem namedResponseSid_eq_false {sid : Byte} (h : namedResponseSid sid = false) :
    sid ≠ 0x58#8 ∧ sid ≠ 0x7E#8 ∧ sid ≠ 0xC1#8 ∧ sid ≠ 0x7F#8 := by
  simpa [namedResponseSid, and_assoc] using h

/-- A frame that carries a service response belongs to the row of its SID (R88, R95). -/
theorem decodeBlock_buildFrame_service (expected : Option Byte) (hdr : Header) {sid : Byte} {p : List Byte}
    (hp : p.length ≤ Config.maxPayload) (hs : sid ≠ 0x7F#8) :
    decodeBlock expected (buildFrame hdr sid p) = serviceRow expected (buildFrame hdr sid p) sid p := by
  simp only [decodeBlock, decodeFrame_buildFrame_service hdr hp hs]

/-- A frame under the SID 0x7F with its two bytes is a negative response (R89). -/
theorem decodeFrame_buildFrame_negative {neg : Byte} (hdr : Header) (rs ec : Byte) {rest : List Byte}
    (hp : rest.length + 2 ≤ Config.maxPayload) :
    decodeFrame neg (buildFrame hdr neg (rs :: ec :: rest)) = .negative rs ec :=
  (decodeFrame_buildFrame neg hdr neg (rs :: ec :: rest) hp).trans (if_pos rfl)

/-- Its row keeps the bytes after the error code (R89). -/
theorem decodeBlock_buildFrame_negative (expected : Option Byte) (hdr : Header) (rs ec : Byte) {rest : List Byte}
    (hp : rest.length + 2 ≤ Config.maxPayload) :
    decodeBlock expected (buildFrame hdr 0x7F#8 (rs :: ec :: rest)) = .negativeResponse hdr rs ec rest := by
  simp only [decodeBlock, decodeFrame_buildFrame_negative hdr rs ec hp, headerOf_buildFrame, buildFrame_payload,
    List.drop_succ_cons, List.drop_zero]

/-- The awaited SID without a row of its own (R88). -/
theorem serviceRow_positiveResponse (hdr : Header) {sid : Byte} (p : List Byte) (hs : namedResponseSid sid = false) :
    serviceRow (some sid) (buildFrame hdr sid p) sid p = .positiveResponse hdr sid p := by
  obtain ⟨h1, h2, h3, -⟩ := namedResponseSid_eq_false hs
  simp only [serviceRow, h1, h2, h3, if_false, if_true, headerOf_buildFrame]

/-- Any other SID without a row of its own (R80; log 18). -/
theorem serviceRow_frame {expected : Option Byte} (hdr : Header) {sid : Byte} (p : List Byte)
    (hs : namedResponseSid sid = false) (he : expected ≠ some sid) :
    serviceRow expected (buildFrame hdr sid p) sid p =
      .frame hdr (byte (1 + p.length)) sid p (checksumOf (frameBody hdr sid p)) := by
  obtain ⟨h1, h2, h3, -⟩ := namedResponseSid_eq_false hs
  have hlen : (buildFrame hdr sid p).getD 3 0#8 = byte (1 + p.length) := rfl
  simp only [serviceRow, h1, h2, h3, he, if_false, headerOf_buildFrame, hlen, buildFrame_last]

/-- A well-formed `FRAME` has a SID without a row of its own, and its length and checksum are those of R83 and R86. -/
theorem frame_fields_of_wf {c : Cfg} {hdr : Header} {length sid ck : Byte} {p : List Byte}
    (h : (Instr.frame hdr length sid p ck).wf c = true) :
    p.length ≤ Config.maxPayload ∧ namedResponseSid sid = false ∧ length = byte (1 + p.length) ∧
      ck = checksumOf (frameBody hdr sid p) := by
  simp only [Instr.wf, Bool.and_eq_true, decide_eq_true_eq, Bool.not_eq_true'] at h
  obtain ⟨⟨⟨hp, hlen⟩, hs⟩, hck⟩ := h
  refine ⟨hp, hs, BitVec.eq_of_toNat_eq ?_, hck⟩
  have hlt := length.isLt
  rw [byte_toNat_of_lt (by omega), hlen]

/-- A block that is no frame by the table's codes is read as `RX` (R56, R122). -/
theorem decodeBlock_of_rx_wf {c : Cfg} {block : List Byte} (expected : Option Byte)
    (h : (Instr.rx block).wf c = true) : decodeBlock expected block = .rx block := by
  simp only [Instr.wf] at h
  unfold decodeBlock
  split at h
  · next e he => rw [he]
  · cases h

/-- Decoding the bytes of a well-formed inbound row gives it back. -/
theorem decodeBlock_encode {c : Cfg} {i : Instr} {block : List Byte} {expected : Option Byte} (hwf : i.wf c = true)
    (h : encode i = some (.inbound, block))
    (hpos : ∀ hdr sid p, i = .positiveResponse hdr sid p → expected = some sid)
    (hframe : ∀ hdr l sid p ck, i = .frame hdr l sid p ck → expected ≠ some sid) :
    decodeBlock expected block = i := by
  cases i with
  | frame hdr length sid p ck =>
    obtain ⟨hp, hs, rfl, rfl⟩ := frame_fields_of_wf hwf
    obtain ⟨-, -, -, hneg⟩ := namedResponseSid_eq_false hs
    cases h
    exact (decodeBlock_buildFrame_service expected hdr hp hneg).trans
      (serviceRow_frame hdr p hs (hframe _ _ _ _ _ rfl))
  | rspReadDtcs hdr p | rspTesterPresent hdr p | rspStartCommunication hdr p =>
    cases h
    rw [decodeBlock_buildFrame_service expected hdr (of_decide_eq_true hwf) (by decide)]
    simp [serviceRow, headerOf_buildFrame]
  | negativeResponse hdr rs ec rest =>
    cases h
    exact decodeBlock_buildFrame_negative expected hdr rs ec (of_decide_eq_true hwf)
  | positiveResponse hdr sid p =>
    cases h
    obtain ⟨hp, hs⟩ := Bool.and_eq_true_iff.1 hwf
    rw [Bool.not_eq_true'] at hs
    obtain ⟨-, -, -, hneg⟩ := namedResponseSid_eq_false hs
    rw [hpos hdr sid p rfl]
    exact (decodeBlock_buildFrame_service _ hdr (of_decide_eq_true hp) hneg).trans
      (serviceRow_positiveResponse hdr p hs)
  | rx block =>
    cases h
    exact decodeBlock_of_rx_wf expected hwf
  | _ => cases h

end Sys2Proof

namespace Sys2Proof.Proofs

open Machine

/-- Settles O2: a command is read back by its row of R100, a request row by its SID byte. -/
theorem commandDecodesFromItsBytes : Obligations.CommandDecodesFromItsBytes := by
  unfold Obligations.CommandDecodesFromItsBytes
  exact ⟨fun c i bytes => decodeCommand_encode, fun i bytes h => (decodeRequestSid_iff i bytes).2 h⟩

/-- Settles O4: an inbound row is read back by what `DECODE` makes of its frame and by the row of its SID. -/
theorem inboundRowDecodesFromItsBytes : Obligations.InboundRowDecodesFromItsBytes := by
  unfold Obligations.InboundRowDecodesFromItsBytes
  exact fun c i block expected => decodeBlock_encode

/-- Settles O3: a command takes its own bytes from the front and no byte may follow it. -/
theorem commandBytesAreUnique : Obligations.CommandBytesAreUnique := by
  unfold Obligations.CommandBytesAreUnique
  exact ⟨fun c i bytes => encode_of_decodeCommand, fun i bytes h => (decodeRequestSid_iff i bytes).1 h⟩

/-- Settles O1: each word by evaluating the decoder. -/
theorem knownWordsDecode : Obligations.KnownWordsDecode := by
  unfold Obligations.KnownWordsDecode
  exact ⟨fun c => ⟨rfl, rfl, rfl⟩, rfl, rfl, rfl⟩

end Sys2Proof.Proofs
end

section
/-! The combinational units, the responses that resolve a request, and the operations that leave the ISM alone: the rules
the obligations O14 to O17, O42, O43 and O55 rest on. -/

namespace Sys2Proof.Machine

/-! ### Checksums (R86, R120) -/

theorem byteSum_eq_sum (b : List Byte) : byteSum b = (b.map BitVec.toNat).sum := by
  induction b with
  | nil => rfl
  | cons x r ih => rw [byteSum, ih, List.map_cons, List.sum_cons]

/-- The checksum is the sum of the bytes modulo 256. -/
theorem checksumOf_toNat (b : List Byte) : (checksumOf b).toNat = (b.map BitVec.toNat).sum % 256 := by
  rw [← byteSum_eq_sum, checksumOf, byte, BitVec.toNat_ofNat]

/-! ### DTCs (R93, R260 to R262) -/

/-- Group `k` of a sequence whose groups are all there, its bytes counted from the first group. -/
theorem dtcGroups_getElem? : ∀ (n : Nat) (p : List Byte) (k : Nat), 3 * n ≤ p.length → k < n →
    (dtcGroups n p)[k]? =
      some ⟨dtcCodeOf (p.getD (3 * k) 0#8) (p.getD (3 * k + 1) 0#8), p.getD (3 * k + 2) 0#8⟩
  | 0, _, _, _, hk => absurd hk (Nat.not_lt_zero _)
  | n + 1, h :: l :: s :: rest, 0, _, _ => rfl
  | n + 1, h :: l :: s :: rest, k + 1, hp, hk => by
    have hrest : 3 * n ≤ rest.length := by simp only [List.length_cons] at hp; omega
    rw [dtcGroups, List.getElem?_cons_succ, dtcGroups_getElem? n rest k hrest (by omega)]
    rfl
  | n + 1, [], _, hp, _ => by simp at hp
  | n + 1, [_], _, hp, _ => by simp at hp; omega
  | n + 1, [_, _], _, hp, _ => by simp at hp; omega

/-- With groups missing there is no DTC (R260). -/
theorem dtcDecodeOf_of_missing {count : Byte} {rest : List Byte} (h : (count :: rest).length < 1 + 3 * count.toNat) :
    dtcDecodeOf (count :: rest) = [] := if_pos h

/-- With all groups there, each is a DTC (R260). -/
theorem dtcDecodeOf_of_complete {count : Byte} {rest : List Byte} (h : 3 * count.toNat ≤ rest.length) :
    dtcDecodeOf (count :: rest) = dtcGroups count.toNat rest :=
  if_neg (by rw [List.length_cons]; omega)

/-- The four category letters by the top two bits (R94, R261). -/
theorem categoryLetter_eq_getD (h : Byte) :
    categoryLetter h = [0x50#8, 0x43#8, 0x42#8, 0x55#8].getD (h.toNat / 64) 0#8 := by
  have hlt : h.toNat / 64 < 4 := by have := h.isLt; omega
  unfold categoryLetter
  generalize h.toNat / 64 = q at hlt ⊢
  revert q
  decide

/-- The sixteen digits (R94, D29). -/
theorem hexDigit_eq_getD : ∀ d < 16, hexDigit d = upperHexDigits.getD d 0#8 := by decide

/-- The value of a bit slice of a byte. -/
theorem extractLsb'_toNat_eq (b : Byte) (start len : Nat) :
    (b.extractLsb' start len).toNat = b.toNat / 2 ^ start % 2 ^ len := by
  rw [BitVec.extractLsb'_toNat, Nat.shiftRight_eq_div_pow]

/-! ### The responses that resolve a request (R216, R217) -/

/-- A negative response resolves the pending request, whatever SID it names (R217). -/
theorem receive_negative {s : State} {block : List Byte} {rs ec : Byte}
    (hd : decodeFrame s.cfg.negRespSid block = .negative rs ec) (hp : s.pendingValid = true) :
    receive block s =
      { s with
        pendingValid := false, respTimer := 0#16, guardTimer := s.cfg.tP3Min
        outputs := s.outputs ++ [.rawRx block, .result (.negative rs ec)] } := by
  simp only [receive, hd, handleFrame, hp, if_true, resolveWith, State.emit, List.append_assoc,
    List.cons_append, List.nil_append]

/-! ### Operations that leave the ISM and the Transport's settings alone (R200, R306) -/

/-- `ism_state`, the rate and the level are the same. -/
structure KeepsIsm (s t : State) : Prop where
  ismState : t.ismState = s.ismState
  tBaud : t.tBaud = s.tBaud
  tLineLow : t.tLineLow = s.tLineLow

theorem KeepsIsm.refl (s : State) : KeepsIsm s s := ⟨rfl, rfl, rfl⟩

theorem KeepsIsm.trans {s t u : State} (h : KeepsIsm s t) (h' : KeepsIsm t u) : KeepsIsm s u :=
  ⟨h'.ismState.trans h.ismState, h'.tBaud.trans h.tBaud, h'.tLineLow.trans h.tLineLow⟩

theorem emit_keepsIsm (s : State) (o : Output) : KeepsIsm s (s.emit o) := ⟨rfl, rfl, rfl⟩

theorem resolveWith_keepsIsm (r : RequestResult) (s : State) : KeepsIsm s (resolveWith r s) := ⟨rfl, rfl, rfl⟩

theorem acceptRequest_keepsIsm (sid : Byte) (p : List Byte) (s : State) : KeepsIsm s (acceptRequest sid p s) := by
  rcases acceptRequest_cases sid p s with ⟨e, -, he⟩ | ⟨-, -, -, -, he⟩
  · rw [he]; exact emit_keepsIsm s _
  · rw [he]; exact ⟨rfl, rfl, rfl⟩

theorem acceptBuilt_keepsIsm (sid : Byte) (payload : Option (List Byte)) (s : State) :
    KeepsIsm s (acceptBuilt sid payload s) := by
  rcases acceptBuilt_cases sid payload s with ⟨-, he⟩ | ⟨p, -, he⟩
  · rw [he]; exact .refl s
  · rw [he]; exact acceptRequest_keepsIsm sid p s

theorem receive_keepsIsm (b : List Byte) (s : State) : KeepsIsm s (receive b s) := by
  rcases receive_cases b s with ⟨k, he⟩ | ⟨-, r, he⟩
  · rw [he]; exact ⟨rfl, rfl, rfl⟩
  · rw [he]; exact ⟨rfl, rfl, rfl⟩

theorem tickDispatcher_keepsIsm (s : State) : KeepsIsm s (tickDispatcher s) := by
  rcases tickDispatcher_cases s with ⟨-, he⟩ | ⟨-, -, he⟩ | ⟨-, -, he⟩
  · rw [he]; exact ⟨rfl, rfl, rfl⟩
  · rw [he]; exact resolveWith_keepsIsm _ s
  · rw [he]; exact ⟨rfl, rfl, rfl⟩

theorem afterWrite_keepsIsm (req : ServiceRequest) (ok : Bool) (s : State) : KeepsIsm s (afterWrite req ok s) := by
  unfold afterWrite
  split
  · exact (resolveWith_keepsIsm _ s).trans (emit_keepsIsm _ _)
  · split
    · exact ⟨rfl, rfl, rfl⟩
    · exact resolveWith_keepsIsm _ s

theorem dispatch_keepsIsm (s : State) : KeepsIsm s (dispatch s) := by
  unfold dispatch
  split
  · exact .refl s
  · next req rest _ =>
    have hpop : KeepsIsm s { s with queue := rest } := ⟨rfl, rfl, rfl⟩
    split
    · next f _ =>
      have hsent : KeepsIsm s (sendTx (loadTx f { s with queue := rest })) := ⟨rfl, rfl, rfl⟩
      exact hsent.trans (afterWrite_keepsIsm req s.answer _)
    · exact hpop.trans (resolveWith_keepsIsm _ _)

theorem deliver_keepsIsm (block : List Byte) (s : State) : KeepsIsm s (deliver block s) := by
  unfold deliver
  split
  · exact ⟨rfl, rfl, rfl⟩
  · exact ⟨rfl, rfl, rfl⟩

/-- An operation that runs under its guard only (R151). -/
theorem keepsIsm_ite {c : Prop} [Decidable c] {s t u : State} (ht : KeepsIsm s t) (hu : KeepsIsm s u) :
    KeepsIsm s (if c then t else u) := by
  split
  · exact ht
  · exact hu

/-- `CANCEL_REQUEST` is a matter of the SD (R230). -/
theorem cancelRequest_keepsIsm (s : State) : ∃ t, exec .cancelRequest s = .next t ∧ KeepsIsm s t :=
  ⟨_, rfl, keepsIsm_ite (emit_keepsIsm s _) ((emit_keepsIsm s _).trans (resolveWith_keepsIsm _ _))⟩

/-- An operation that is neither the ISM's nor a setting call. -/
theorem exec_keepsIsm {i : Instr} (hi : isIsmOperation i = false) (hset : ¬ isSettingCall i) (s : State) :
    ∃ t, exec i s = .next t ∧ KeepsIsm s t := by
  cases i with
  | startInit5Baud | startInitFast | cancelInit | tickSendingAddressNextBit | tickSendingAddressDone | tickAwaitingSync
  | tickPulseLow | tickPulseHigh | tauIsmWrite | sidStartCommunication | fail => cases hi
  | tSetBaudRate bps => exact absurd (.inl ⟨bps, rfl⟩) hset
  | tSetLineState low => exact absurd (.inr ⟨low, rfl⟩) hset
  | cancelRequest => exact cancelRequest_keepsIsm s
  | sendService | readDtcs | clearDtcs | testerPresent => exact ⟨_, rfl, acceptRequest_keepsIsm _ _ s⟩
  | readMemory | writeMemory => exact ⟨_, rfl, acceptBuilt_keepsIsm _ _ s⟩
  | checksum | encode | decode | dtcDecode | dtcCode => exact ⟨_, rfl, rfl, rfl, rfl⟩
  | frame | rspReadDtcs | rspTesterPresent | rspStartCommunication | negativeResponse | positiveResponse | rx =>
    exact ⟨_, rfl, receive_keepsIsm _ s⟩
  | sidReadDtcs | sidTesterPresent | tauDispatch => exact ⟨_, rfl, keepsIsm_ite (dispatch_keepsIsm s) (.refl s)⟩
  | tickSd => exact ⟨_, rfl, tickDispatcher_keepsIsm s⟩
  | resolve r => exact ⟨_, rfl, resolveWith_keepsIsm r s⟩
  | tIsOpen | tWrite | tClose => exact ⟨_, rfl, rfl, rfl, rfl⟩
  | tSubscribeRead block => exact ⟨_, rfl, deliver_keepsIsm block s⟩

end Sys2Proof.Machine

namespace Sys2Proof.Proofs

open Machine

/-- Settles O14: the checksum by `checksumOf_toNat`, the accumulator by `foldl_add_eq_checksumOf`. -/
theorem checksumAndDecodeUnits : Obligations.ChecksumAndDecodeUnits := by
  unfold Obligations.ChecksumAndDecodeUnits
  refine fun s b => ⟨⟨checksumOf b, checksumOf_toNat b, ?_, rfl⟩, rfl⟩
  rw [foldl_add_eq_checksumOf, BitVec.zero_add]

/-- Settles O15: the two cases of `ENCODE`, the frame being its body and the checksum of the body. -/
theorem encodeUnit : Obligations.EncodeUnit := by
  unfold Obligations.EncodeUnit
  refine fun s target source sid payload => ⟨fun h => ?_, fun h => ⟨_, _, rfl, checksumOf_toNat _, ?_⟩⟩
  · simp only [exec, execEncode, showUnit, encodeFrame_oversized _ _ _ _ _ h]
  · simp only [exec, execEncode, showUnit, encodeFrame_fits _ _ _ _ _ h]
    rfl

/-- Settles O16: the groups by `dtcGroups_getElem?`, one byte further on for the count byte. -/
theorem dtcDecodeUnit : Obligations.DtcDecodeUnit := by
  unfold Obligations.DtcDecodeUnit
  refine fun s payload => ⟨dtcDecodeOf payload, rfl, ?_, ?_⟩
  · rintro rfl
    rfl
  · rintro count rest rfl
    refine ⟨dtcDecodeOf_of_missing, fun h => ?_⟩
    have hrest : 3 * count.toNat ≤ rest.length := by rw [List.length_cons] at h; omega
    rw [dtcDecodeOf_of_complete hrest]
    refine ⟨dtcGroups_length _ _ hrest, fun k hk => ?_⟩
    rw [dtcGroups_getElem? _ _ _ hrest hk, Nat.add_comm 1, Nat.add_comm 2, Nat.add_comm 3]
    rfl

/-- Settles O17: the letter and the digits are those of the quotients and remainders that the bit slices are. -/
theorem dtcCodeUnit : Obligations.DtcCodeUnit := by
  unfold Obligations.DtcCodeUnit
  intro s h l
  have hh := h.isLt
  have hl := l.isLt
  refine ⟨dtcCodeOf h l, rfl, ?_, ?_, ?_, ?_, ?_⟩ <;> rw [extractLsb'_toNat_eq]
  · rw [Nat.mod_eq_of_lt (by omega)]
    exact categoryLetter_eq_getD h
  · exact hexDigit_eq_getD _ (by omega)
  · rw [pow_zero, Nat.div_one]
    exact hexDigit_eq_getD _ (by omega)
  · rw [Nat.mod_eq_of_lt (by omega)]
    exact hexDigit_eq_getD _ (by omega)
  · rw [pow_zero, Nat.div_one]
    exact hexDigit_eq_getD _ (by omega)

/-- Settles O42: the row's frame is the awaited response, and its groups are all there. -/
theorem readDtcsResponseCarriesTheDtcs : Obligations.ReadDtcsResponseCarriesTheDtcs := by
  unfold Obligations.ReadDtcsResponseCarriesTheDtcs
  intro s hdr count groups hp hsid hawait hneg hlen hmax
  have hfit : (count :: groups).length ≤ 254 := by rw [List.length_cons]; omega
  have hdecode := decodeFrame_buildFrame_service (neg := s.cfg.negRespSid) hdr hfit hneg.symm
  have hawaited : 0x58#8 = s.awaitedSid := by rw [State.awaitedSid, hsid, hawait]
  have hcount := dtcGroups_length count.toNat groups hlen.ge
  rw [← dtcDecodeOf_of_complete hlen.ge] at hcount
  refine ⟨_, hcount, ?_⟩
  rw [exec_inbound (.rspReadDtcs hdr (count :: groups)) _ s rfl, receive_awaited hdecode hp hawaited, State.resultDtcs,
    if_pos hsid]
  simp only [resolveWith, State.emit, List.append_assoc, List.cons_append, List.nil_append]

/-- Settles O43: both are the receipt of a block that `DECODE` reads as a negative response. -/
theorem negativeResponseResolves : Obligations.NegativeResponseResolves := by
  unfold Obligations.NegativeResponseResolves
  refine fun s rs ec hp => ⟨fun block hd => congrArg Host.Outcome.next (receive_negative hd hp),
    fun hdr rest hneg hlen => congrArg Host.Outcome.next (receive_negative ?_ hp)⟩
  rw [hneg]
  exact decodeFrame_buildFrame_negative hdr rs ec (Nat.add_le_add_right hlen 2)

/-- Settles O55: a setting call writes no `ism_state`, and the other operations by `exec_keepsIsm`. -/
theorem dispatcherNeverWritesIsmState : Obligations.DispatcherNeverWritesIsmState := by
  unfold Obligations.DispatcherNeverWritesIsmState
  intro s t i hi h
  by_cases hset : isSettingCall i
  · rcases hset with ⟨bps, rfl⟩ | ⟨low, rfl⟩
    · cases h
      exact ⟨rfl, fun hn => absurd (.inl ⟨bps, rfl⟩) hn⟩
    · cases h
      exact ⟨rfl, fun hn => absurd (.inr ⟨low, rfl⟩) hn⟩
  · obtain ⟨t', he, hk⟩ := exec_keepsIsm hi hset s
    cases he.symm.trans h
    exact ⟨hk.ismState, fun _ => ⟨hk.tBaud, hk.tLineLow⟩⟩

end Sys2Proof.Proofs
end

section
/-! Whole initializations in which every call succeeds: the rules the obligations O59 and O60 rest on. -/

namespace Sys2Proof.Machine

/-! ### Ticks from a state of the invariant (R11) -/

/-- A run of ticks keeps the invariant. -/
theorem ticks_inv {n : Nat} {s t : State} (hi : Inv s) (h : ticks n s = .next t) : Inv t := by
  induction n generalizing s with
  | zero => cases h; exact hi
  | succ n ih =>
    have hpresent : Inv (s.present .tick) := hi.environment (some .tick) s.inputs s.answers s.tOpen
    rw [ticks] at h
    cases hstep : step (s.present .tick) with
    | next u => rw [hstep] at h; exact ih (step_inv hpresent hstep) h
    | fault r => rw [hstep] at h; cases h
    | refused r => rw [hstep] at h; cases h

/-- A run of ticks goes on from where it led. -/
theorem ticks_add_of_next {m : Nat} {s t : State} (h : ticks m s = .next t) (n : Nat) :
    ticks (m + n) s = ticks n t := by
  rw [ticks_add, h]
  rfl

/-- Within a timed state a run of ticks only counts. -/
theorem ticks_within_period {k : Nat} {s : State} (hi : Inv s) (hs : timedState s.ismState = true)
    (hk : k < s.initTimer.toNat) : ∃ p g i, ticks k s = .next (waited s p g i) := by
  obtain ⟨-, hready, -⟩ := ne_of_synchronizing (synchronizing_of_timed hs).1
  obtain ⟨p, g, i, he, -⟩ := ticks_timed k s hs (hi.spec.not_pending hready) hi.spec.bitIdx hk
  exact ⟨p, g, i, he⟩

/-- At its end comes what its expiry does, and the guard is counted once more. -/
theorem ticks_period {s : State} (hi : Inv s) (hs : timedState s.ismState = true) :
    ∃ g, ticks s.initTimer.toNat s = .next (tickDispatcher (onExpiry s (waited s none g 0#16))) := by
  obtain ⟨-, hready, -⟩ := ne_of_synchronizing (synchronizing_of_timed hs).1
  exact ticks_timed_whole s hs (hi.spec.not_pending hready) hi.spec.bitIdx (hi.spec.initTimer.2 hs)

/-- A run of `n` ticks during which the link is `Synchronizing`. -/
structure RunsSynchronizing (n : Nat) (s t : State) : Prop where
  ends : ticks n s = .next t
  during : ∀ k, k < n → ∃ u, ticks k s = .next u ∧ u.linkState = .synchronizing

/-- No tick at all. -/
theorem RunsSynchronizing.refl (s : State) : RunsSynchronizing 0 s s := ⟨rfl, nofun⟩

theorem RunsSynchronizing.trans {m n : Nat} {s t u : State} (h : RunsSynchronizing m s t)
    (h' : RunsSynchronizing n t u) : RunsSynchronizing (m + n) s u := by
  refine ⟨(ticks_add_of_next h.ends n).trans h'.ends, fun k hk => ?_⟩
  rcases Nat.lt_or_ge k m with hlt | hge
  · exact h.during k hlt
  · obtain ⟨v, hv, hsync⟩ := h'.during (k - m) (by omega)
    refine ⟨v, ?_, hsync⟩
    rw [← Nat.add_sub_of_le hge, ticks_add_of_next h.ends]
    exact hv

/-- The whole of a timed state. -/
theorem RunsSynchronizing.of_period {s t : State} (hi : Inv s) (hs : timedState s.ismState = true)
    (h : ticks s.initTimer.toNat s = .next t) : RunsSynchronizing s.initTimer.toNat s t := by
  refine ⟨h, fun k hk => ?_⟩
  obtain ⟨p, g, i, he⟩ := ticks_within_period hi hs hk
  exact ⟨_, he, (synchronizing_of_timed hs).1⟩

/-! ### The accepted start (R152, R153, R160) -/

/-- The answer to the next call is the first one supplied (R10). -/
theorem answer_of_cons {s : State} {b : Bool} {more : List Bool} (h : s.answers = b :: more) : s.answer = b := by
  simp only [State.answer, h]

/-- With the SD at rest and the Transport open, no initialization running, a start is accepted. -/
theorem startInit_of_accepted (mode : InitMode) (a : Byte) (k : State → State) {s : State}
    (hlink : s.linkState ≠ .synchronizing) (hp : s.pendingValid = false) (hq : s.queue = []) (hopen : s.tOpen = true) :
    startInit mode a k s = k (accepted mode a s) := by
  have hidle : s.sdIdle = true := (sdIdle_iff s).2 ⟨hp, hq⟩
  rcases startInit_cases mode a k s with ⟨hbusy, -⟩ | ⟨-, -, hclosed, -⟩ | ⟨-, -, -, he⟩
  · simp [hlink, hidle] at hbusy
  · simp [hopen] at hclosed
  · exact he

/-- The fast variant begins with the line low (R160). -/
theorem beginFast_accepted {s : State} (a : Byte) (hopen : s.tOpen = true) (ha : s.answer = true) :
    beginFast (accepted .fast a s) =
      { s with
        ismState := .pulseLow, initTimer := s.cfg.tPulseLow, tLineLow := true
        ecuAddr := a, ecuAddrWritten := true, initMode := .fast, failReason := .none
        answers := s.answers.tail, callNo := s.callNo + 1
        outputs := s.outputs ++
          [.call (.isOpen true), .ack .ok, .notify .synchronizing, .call (.setLineState true true)] } := by
  have ha' : (accepted .fast a s).answer = true := ha
  rw [beginFast, if_pos ha', callSetLineState_of_ok _ ha']
  simp only [accepted, callIsOpen, State.emit, hopen, List.append_assoc, List.cons_append, List.nil_append]

/-- The 5-baud variant begins with the start bit (R153). -/
theorem beginFiveBaud_accepted {s : State} (a : Byte) (hopen : s.tOpen = true) (ha : s.answer = true) :
    beginFiveBaud (accepted .fiveBaud a s) =
      { s with
        ismState := .sendingAddress, bitIdx := 0#4, initTimer := s.cfg.tBit, tLineLow := true
        ecuAddr := a, ecuAddrWritten := true, initMode := .fiveBaud, failReason := .none
        answers := s.answers.tail, callNo := s.callNo + 1
        outputs := s.outputs ++
          [.call (.isOpen true), .ack .ok, .notify .synchronizing, .status .startingFiveBaud,
            .call (.setLineState true true)] } := by
  have ha' : ({ (accepted .fiveBaud a s).emit (.status .startingFiveBaud) with bitIdx := 0#4 } : State).answer = true :=
    ha
  simp only [beginFiveBaud, ha', if_true, callSetLineState_of_ok _ ha']
  simp only [accepted, callIsOpen, State.emit, hopen, List.append_assoc, List.cons_append, List.nil_append]

/-! ### The timed states, each to its end with a call that succeeds (R155 to R162) -/

/-- The low pulse (R161). -/
theorem ticks_pulseLow_of_ok {s : State} (hi : Inv s) (hs : s.ismState = .pulseLow) (ha : s.answer = true) :
    ∃ g, ticks s.initTimer.toNat s = .next
      { s with
        ismState := .pulseHigh, initTimer := s.cfg.tPulseHigh, tLineLow := false
        answers := s.answers.tail, callNo := s.callNo + 1
        outputs := s.outputs ++ [.call (.setLineState false true)], presented := none, guardTimer := g } := by
  obtain ⟨g, he⟩ := ticks_pulseLow hi hs
  have hp : s.pendingValid = false := hi.spec.not_pending (by simp [hs])
  have hend := pulseLowDone_of_ok (s := waited s none g 0#16) ha
  rw [hend, tickDispatcher_idle (by exact hp)] at he
  exact ⟨_, he⟩

/-- The high pulse (R162). -/
theorem ticks_pulseHigh_of_ok {s : State} (hi : Inv s) (hs : s.ismState = .pulseHigh) (ha : s.answer = true) :
    ∃ g, ticks s.initTimer.toNat s = .next
      { s with
        ismState := .sendingStartComm, initTimer := 0#16, tBaud := s.cfg.baudSteady, txLen := 7#9
        txFrame := s.txFrame.writeBytes 0
          (buildFrame ⟨s.cfg.formatByte, s.ecuAddr, s.cfg.testerAddr⟩ s.cfg.sidStartComm [s.cfg.sessionType])
        answers := s.answers.tail, callNo := s.callNo + 1
        outputs := s.outputs ++ [.call (.setBaudRate s.cfg.baudSteady true)], presented := none, guardTimer := g } := by
  obtain ⟨g, he⟩ := ticks_period hi (by rw [hs]; rfl)
  obtain ⟨-, -, -, -, -, -, -, -, -, hroom⟩ := hi.cfg
  have hp : s.pendingValid = false := hi.spec.not_pending (by simp [hs])
  have hexpiry : onExpiry s = pulseHighDone := by simp only [onExpiry, hs]
  have hend := pulseHighDone_of_ok (s := waited s none g 0#16) ha hroom
  rw [hexpiry, hend, tickDispatcher_idle (by exact hp)] at he
  exact ⟨_, he⟩

/-- A bit period before the last (R155). -/
theorem ticks_bit_of_ok {s : State} (hi : Inv s) (hs : s.ismState = .sendingAddress) (hb : s.bitIdx < 9#4)
    (ha : s.answer = true) :
    ∃ g, ticks s.initTimer.toNat s = .next
      { s with
        bitIdx := s.bitIdx + 1#4, initTimer := s.cfg.tBit
        tLineLow := levelLow s.cfg.nDataBits.toNat s.ecuAddr (s.bitIdx + 1#4).toNat
        answers := s.answers.tail, callNo := s.callNo + 1
        outputs := s.outputs ++
          [.call (.setLineState (levelLow s.cfg.nDataBits.toNat s.ecuAddr (s.bitIdx + 1#4).toNat) true)]
        presented := none, guardTimer := g } := by
  obtain ⟨g, he⟩ := ticks_period hi (by rw [hs]; rfl)
  have hp : s.pendingValid = false := hi.spec.not_pending (by simp [hs])
  have hexpiry : onExpiry s = nextAddressBit := by simp only [onExpiry, hs, if_pos hb]
  have hend := nextAddressBit_of_ok (s := waited s none g 0#16) ha
  rw [hexpiry, hend, tickDispatcher_idle (by exact hp)] at he
  exact ⟨_, he⟩

/-- The last bit period (R156). -/
theorem ticks_lastBit_of_ok {s : State} (hi : Inv s) (hs : s.ismState = .sendingAddress) (hb : s.bitIdx = 9#4)
    (ha : s.answer = true) :
    ∃ g, ticks s.initTimer.toNat s = .next
      { s with
        ismState := .awaitingSync, initTimer := s.cfg.tSettle, tBaud := s.cfg.baudSteady
        answers := s.answers.tail, callNo := s.callNo + 1
        outputs := s.outputs ++ [.call (.setBaudRate s.cfg.baudSteady true)], presented := none, guardTimer := g } := by
  obtain ⟨g, he⟩ := ticks_period hi (by rw [hs]; rfl)
  have hp : s.pendingValid = false := hi.spec.not_pending (by simp [hs])
  have hexpiry : onExpiry s = addressDone := by simp only [onExpiry, hs, hb, BitVec.lt_irrefl, if_false]
  have ha' : (waited s none g 0#16).answer = true := ha
  rw [hexpiry, addressDone, if_pos ha', callSetBaudRate_of_ok _ ha', tickDispatcher_idle (by exact hp)] at he
  exact ⟨_, he⟩

/-- What the entry to `Ready` changes (R157, R183). -/
theorem enterReady_eq (s : State) :
    enterReady s =
      { s with ismState := .ready, outputs := s.outputs ++ [.notify .ready, .status .initSuccessful] } := by
  simp only [enterReady, State.emit, List.append_assoc, List.cons_append, List.nil_append]

/-- The settling time, after which the link is ready (R157). -/
theorem ticks_awaitingSync {s : State} (hi : Inv s) (hs : s.ismState = .awaitingSync) :
    ∃ g, ticks s.initTimer.toNat s = .next
      { s with
        ismState := .ready, initTimer := 0#16
        outputs := s.outputs ++ [.notify .ready, .status .initSuccessful], presented := none, guardTimer := g } := by
  obtain ⟨g, he⟩ := ticks_period hi (by rw [hs]; rfl)
  have hp : s.pendingValid = false := hi.spec.not_pending (by simp [hs])
  have hexpiry : onExpiry s = enterReady := by simp only [onExpiry, hs]
  rw [hexpiry, enterReady_eq, tickDispatcher_idle (by exact hp)] at he
  exact ⟨_, he⟩

/-! ### The address character (R90, R154, R155) -/

/-- The call that puts bit period `i` of the address character on the line. -/
def bitCall (s : State) (i : Nat) : Output :=
  .call (.setLineState (levelLow s.cfg.nDataBits.toNat s.ecuAddr i) true)

/-- Bit period `k` of a run that was in state `s` at its start bit, every call since having succeeded; what the ticks
alone change is given. -/
def bitPeriod (s : State) (k : Nat) (p : Option Event) (guard : Millis) : State :=
  { s with
    bitIdx := BitVec.ofNat 4 k, initTimer := s.cfg.tBit, tLineLow := levelLow s.cfg.nDataBits.toNat s.ecuAddr k
    answers := s.answers.drop k, callNo := s.callNo + k
    outputs := s.outputs ++ (List.range k).map (fun i => bitCall s (i + 1)), presented := p, guardTimer := guard }

/-- The start bit (R153). -/
theorem bitPeriod_zero {s : State} (hb : s.bitIdx = 0#4) (ht : s.initTimer = s.cfg.tBit) (hl : s.tLineLow = true) :
    bitPeriod s 0 s.presented s.guardTimer = s := by
  have hlow : levelLow s.cfg.nDataBits.toNat s.ecuAddr 0 = true := rfl
  simp only [bitPeriod, hlow, ← hb, ← ht, ← hl, List.drop_zero, Nat.add_zero, List.range_zero, List.map_nil,
    List.append_nil]

/-- One bit period leads to the next. -/
theorem ticks_bitPeriod {s : State} {k : Nat} {p : Option Event} {g : Millis} (hi : Inv (bitPeriod s k p g))
    (hs : s.ismState = .sendingAddress) (hk : k < 9) (ha : (bitPeriod s k p g).answer = true) :
    ∃ g', ticks (bitPeriod s k p g).initTimer.toNat (bitPeriod s k p g) = .next (bitPeriod s (k + 1) none g') := by
  have hidx : (bitPeriod s k p g).bitIdx = BitVec.ofNat 4 k := rfl
  have hlt : BitVec.ofNat 4 k < 9#4 := by bv_omega
  have hnext : BitVec.ofNat 4 k + 1#4 = BitVec.ofNat 4 (k + 1) := by bv_omega
  have hval : (BitVec.ofNat 4 (k + 1)).toNat = k + 1 := by rw [BitVec.toNat_ofNat]; omega
  obtain ⟨g', he⟩ := ticks_bit_of_ok hi hs hlt ha
  refine ⟨g', he.trans (congrArg Host.Outcome.next ?_)⟩
  simp only [hidx, hnext, hval]
  simp only [bitPeriod, bitCall, List.tail_drop, List.range_succ, List.map_append, List.map_cons, List.map_nil,
    List.append_assoc, Nat.add_assoc]

/-- From the start bit to bit period `k`: every period lasts `T_BIT` (R154). -/
theorem runsSynchronizing_bitPeriods {s : State} {more : List Bool} (hi : Inv s) (hs : s.ismState = .sendingAddress)
    (hb : s.bitIdx = 0#4) (ht : s.initTimer = s.cfg.tBit) (hl : s.tLineLow = true)
    (ha : s.answers = List.replicate 10 true ++ more) {k : Nat} (hk : k ≤ 9) :
    ∃ p g, RunsSynchronizing (k * s.cfg.tBit.toNat) s (bitPeriod s k p g) := by
  induction k with
  | zero =>
    refine ⟨s.presented, s.guardTimer, ?_⟩
    rw [bitPeriod_zero hb ht hl, Nat.zero_mul]
    exact .refl s
  | succ k ih =>
    obtain ⟨p, g, hrun⟩ := ih (by omega)
    have hinv : Inv (bitPeriod s k p g) := ticks_inv hi hrun.ends
    have hanswers : (bitPeriod s k p g).answers = true :: (List.replicate (9 - k) true ++ more) := by
      show s.answers.drop k = _
      rw [ha, List.drop_append_of_le_length (by rw [List.length_replicate]; omega), List.drop_replicate,
        show 10 - k = (9 - k) + 1 by omega, List.replicate_succ, List.cons_append]
    obtain ⟨g', he⟩ := ticks_bitPeriod hinv hs (by omega) (answer_of_cons hanswers)
    have htimed : timedState (bitPeriod s k p g).ismState = true := congrArg timedState hs
    refine ⟨none, g', ?_⟩
    rw [Nat.succ_mul]
    exact hrun.trans (.of_period hinv htimed he)

/-- The calls after the start bit: the data bits, and high for the periods that are left (R90; log 28). -/
theorem map_bitCall_range {s : State} {m : Nat} (h : s.cfg.nDataBits.toNat ≤ m) :
    (List.range m).map (fun i => bitCall s (i + 1)) =
      (List.range s.cfg.nDataBits.toNat).map (fun i => Output.call (.setLineState (!s.ecuAddr.getLsbD i) true)) ++
        List.replicate (m - s.cfg.nDataBits.toNat) (Output.call (.setLineState false true)) := by
  have hdata : ∀ i ∈ List.range s.cfg.nDataBits.toNat,
      bitCall s (i + 1) = .call (.setLineState (!s.ecuAddr.getLsbD i) true) := fun i hi => by
    rw [bitCall, levelLow_succ_of_lt _ (List.mem_range.1 hi)]
  have hhigh : ∀ i ∈ List.range (m - s.cfg.nDataBits.toNat),
      bitCall s (s.cfg.nDataBits.toNat + i + 1) = .call (.setLineState false true) := fun i _ => by
    rw [bitCall, levelLow_succ_of_le _ (Nat.le_add_right _ _)]
  obtain ⟨d, rfl⟩ := Nat.exists_eq_add_of_le h
  rw [Nat.add_sub_cancel_left] at hhigh ⊢
  rw [List.range_add, List.map_append, List.map_map, List.map_congr_left hdata]
  refine congrArg _ (List.eq_replicate_iff.2 ⟨by simp, fun o ho => ?_⟩)
  obtain ⟨i, hi, rfl⟩ := List.mem_map.1 ho
  exact hhigh i hi

/-- A 5-baud run from its start bit to `Ready` (R154 to R157, R185). -/
theorem runsSynchronizing_fiveBaud {s : State} {more : List Bool} (hi : Inv s) (hs : s.ismState = .sendingAddress)
    (hb : s.bitIdx = 0#4) (ht : s.initTimer = s.cfg.tBit) (hl : s.tLineLow = true)
    (ha : s.answers = List.replicate 10 true ++ more) :
    ∃ t : State, RunsSynchronizing (10 * s.cfg.tBit.toNat + s.cfg.tSettle.toNat) s t ∧
      t.ismState = .ready ∧ t.tLineLow = false ∧ t.tBaud = s.cfg.baudSteady ∧ t.answers = more ∧
      t.outputs = s.outputs ++
        (List.range s.cfg.nDataBits.toNat).map (fun i => Output.call (.setLineState (!s.ecuAddr.getLsbD i) true)) ++
        List.replicate (9 - s.cfg.nDataBits.toNat) (Output.call (.setLineState false true)) ++
        [Output.call (.setBaudRate s.cfg.baudSteady true), Output.notify .ready, Output.status .initSuccessful] := by
  obtain ⟨-, -, -, -, -, -, -, hbits, -⟩ := hi.cfg
  obtain ⟨p, g, hbitRun⟩ := runsSynchronizing_bitPeriods hi hs hb ht hl ha le_rfl
  have hlast : Inv (bitPeriod s 9 p g) := ticks_inv hi hbitRun.ends
  have hanswers : (bitPeriod s 9 p g).answers = true :: more := congrArg (List.drop 9) ha
  obtain ⟨g', he⟩ := ticks_lastBit_of_ok hlast hs rfl (answer_of_cons hanswers)
  have hrate := hbitRun.trans (.of_period hlast (congrArg timedState hs) he)
  have hsettle := ticks_inv hi hrate.ends
  obtain ⟨g'', he'⟩ := ticks_awaitingSync hsettle rfl
  have hrun := hrate.trans (.of_period hsettle rfl he')
  have hticks : 10 * s.cfg.tBit.toNat + s.cfg.tSettle.toNat =
      9 * s.cfg.tBit.toNat + s.cfg.tBit.toNat + s.cfg.tSettle.toNat := by omega
  rw [hticks]
  refine ⟨_, hrun, rfl, levelLow_succ_of_le _ hbits, rfl, congrArg List.tail hanswers, ?_⟩
  simp only [bitPeriod, map_bitCall_range (Nat.le_succ_of_le hbits), List.append_assoc, List.cons_append,
    List.nil_append]

end Sys2Proof.Machine

namespace Sys2Proof.Proofs

open Machine

/-- Settles O59: the low pulse to its end, then the high pulse, from the state of the accepted start. -/
theorem fastInitRun : Obligations.FastInitRun := by
  unfold Obligations.FastInitRun
  intro s s₁ a more hi hlink hp hq hopen ha h
  have hlow : Inv s₁ := inv_of_next (exec_command_inv rfl hi) h
  cases (startInit_of_accepted .fast a beginFast hlink hp hq hopen).symm.trans (Host.Outcome.next.inj h)
  rw [beginFast_accepted a hopen (answer_of_cons ha)] at hlow ⊢
  have hanswers : s.answers.tail = true :: true :: more := congrArg List.tail ha
  obtain ⟨g, hrise⟩ := ticks_pulseLow_of_ok hlow rfl (answer_of_cons hanswers)
  have hhigh := ticks_inv hlow hrise
  obtain ⟨g', hbuilt⟩ := ticks_pulseHigh_of_ok hhigh rfl (answer_of_cons (congrArg List.tail hanswers))
  obtain ⟨-, hframe⟩ := (ticks_inv hhigh hbuilt).buffers.startComm rfl
  refine ⟨rfl, fun k hk => ?_, fun k hk => ?_, ?_⟩
  · obtain ⟨p, g, i, he⟩ := ticks_within_period hlow rfl hk
    exact ⟨_, he, rfl, rfl, rfl⟩
  · obtain ⟨p, g, i, he⟩ := ticks_within_period hhigh rfl hk
    exact ⟨_, (ticks_add_of_next hrise k).trans he, rfl, rfl, rfl⟩
  · exact ⟨_, (ticks_add_of_next hrise _).trans hbuilt, rfl, rfl, rfl,
      congrArg (fun l => l.tail.tail) hanswers, hframe, List.append_assoc _ _ _⟩

/-- Settles O60: the run from the start bit, whose calls are those of the address character. -/
theorem fiveBaudInitRun : Obligations.FiveBaudInitRun := by
  unfold Obligations.FiveBaudInitRun
  intro s s₁ a more hi hlink hp hq hopen ha h
  have hstart : Inv s₁ := inv_of_next (exec_command_inv rfl hi) h
  cases (startInit_of_accepted .fiveBaud a beginFiveBaud hlink hp hq hopen).symm.trans (Host.Outcome.next.inj h)
  rw [beginFiveBaud_accepted a hopen (answer_of_cons ha)] at hstart ⊢
  obtain ⟨t, hrun, hend⟩ := runsSynchronizing_fiveBaud hstart rfl rfl rfl rfl (congrArg List.tail ha)
  exact ⟨hrun.during, t, hrun.ends, hend⟩

end Sys2Proof.Proofs
end

section
/-! The checks of `DECODE`, one rule per line of R122, and the checksum of a sequence with one byte changed: the rules
the obligations O11 to O13 rest on. -/

namespace Sys2Proof.Machine

/-! ### One byte changed (R86, R120) -/

/-- The checksum moves by the difference of the two bytes. -/
theorem checksumOf_set (v : Byte) : ∀ (b : List Byte) (i : Nat) (h : i < b.length),
    checksumOf (b.set i v) + b[i] = checksumOf b + v
  | x :: r, 0, _ => by
    rw [List.set_cons_zero, List.getElem_cons_zero, checksumOf_cons, checksumOf_cons, BitVec.add_comm _ x,
      BitVec.add_comm v, BitVec.add_assoc]
  | x :: r, i + 1, h => by
    rw [List.set_cons_succ, List.getElem_cons_succ, checksumOf_cons, checksumOf_cons, BitVec.add_assoc,
      checksumOf_set v r i (Nat.lt_of_succ_lt_succ h), BitVec.add_assoc]

/-- So no change of one byte keeps the checksum. -/
theorem checksumOf_set_ne {b : List Byte} {i : Nat} {v : Byte} (h : i < b.length) (hv : v ≠ b[i]) :
    checksumOf (b.set i v) ≠ checksumOf b := fun he => by
  have hmove := checksumOf_set v b i h
  rw [he, BitVec.add_right_inj] at hmove
  exact hv hmove.symm

/-! ### The lines of `DECODE` (R122) -/

/-- Line 1: fewer than five bytes. -/
theorem decodeFrame_of_short (neg : Byte) {b : List Byte} (h : b.length < 5) :
    decodeFrame neg b = .error .frameTooShort := by
  rw [decodeFrame, if_pos h]

/-- Line 2: the last byte is not the checksum of those before it. -/
theorem decodeFrame_of_bad_checksum (neg : Byte) {b : List Byte} (h : 5 ≤ b.length)
    (hc : b.getLastD 0#8 ≠ checksumOf b.dropLast) : decodeFrame neg b = .error .checksumMismatch := by
  rw [decodeFrame, if_neg (Nat.not_lt.2 h), if_pos hc]

/-- Line 3: no room for a SID (D12). -/
theorem decodeFrame_of_five_bytes (neg : Byte) {b : List Byte} (h : b.length = 5)
    (hc : b.getLastD 0#8 = checksumOf b.dropLast) : decodeFrame neg b = .error .lengthMismatch := by
  rw [decodeFrame, if_neg (by omega), if_neg (not_not.2 hc), if_pos h]

/-- Line 4: the length byte counts another number of bytes. -/
theorem decodeFrame_of_bad_length (neg : Byte) {b : List Byte} (h : 6 ≤ b.length)
    (hc : b.getLastD 0#8 = checksumOf b.dropLast) (hl : (b.getD 3 0#8).toNat ≠ b.length - 5) :
    decodeFrame neg b = .error .lengthMismatch := by
  rw [decodeFrame, if_neg (by omega), if_neg (not_not.2 hc), if_neg (by omega), if_pos hl]

/-- A block that passes lines 1 to 4. -/
theorem decodeFrame_of_checked (neg : Byte) {b : List Byte} (h : 6 ≤ b.length)
    (hc : b.getLastD 0#8 = checksumOf b.dropLast) (hl : (b.getD 3 0#8).toNat = b.length - 5) :
    decodeFrame neg b = decodeBody neg (b.getD 4 0#8) (payloadOf b) := by
  rw [decodeFrame, if_neg (by omega), if_neg (not_not.2 hc), if_neg (by omega), if_neg (not_not.2 hl)]

/-- Line 7: a negative response without its two bytes (D13). -/
theorem decodeBody_of_short_negative (neg : Byte) {p : List Byte} (h : p.length < 2) :
    decodeBody neg neg p = .error .frameTooShort := by
  match p, h with
  | [], _ => exact if_pos rfl
  | [_], _ => exact if_pos rfl
  | _ :: _ :: _, h => simp at h

/-- Line 8: a negative response. -/
theorem decodeBody_of_negative (neg : Byte) {p : List Byte} (h : 2 ≤ p.length) :
    decodeBody neg neg p = .negative (p.getD 0 0#8) (p.getD 1 0#8) := by
  match p, h with
  | _ :: _ :: _, _ => exact if_pos rfl
  | [], h => simp at h
  | [_], h => simp at h

/-- Line 9: a service response. -/
theorem decodeBody_of_service {neg sid : Byte} (p : List Byte) (h : sid ≠ neg) :
    decodeBody neg sid p = .service sid p := if_neg h

/-! ### The bytes the lines speak of -/

/-- The payload is the bytes between SID and checksum. -/
theorem payloadOf_eq (b : List Byte) : payloadOf b = (b.drop 5).take (b.length - 6) := by
  rw [payloadOf, List.dropLast_eq_take, List.drop_take, Nat.sub_sub]

@[simp] theorem payloadOf_length (b : List Byte) : (payloadOf b).length = b.length - 6 := by
  simp [payloadOf, Nat.sub_sub]

/-- Payload byte `i` is byte `5 + i` of the block. -/
theorem payloadOf_getD {b : List Byte} {i : Nat} (h : i < b.length - 6) (d : Byte) :
    (payloadOf b).getD i d = b.getD (5 + i) d := by
  simp [payloadOf_eq, List.getD_eq_getElem?_getD, List.getElem?_take_of_lt h]

/-- The two readings of a block's last byte. -/
theorem getLastD_eq_iff {b : List Byte} (h : b ≠ []) (d c : Byte) : b.getLastD d = c ↔ b.getLast? = some c := by
  rw [List.getLastD_eq_getLast?, List.getLast?_eq_some_getLast h, Option.getD_some, Option.some_inj]

/-! ### A frame and its corruption (R121, R124) -/

/-- A frame that `ENCODE` answers is the one of its arguments (R121). -/
theorem eq_buildFrame_of_encodeFrame {c : Cfg} {target source sid : Byte} {p f : List Byte}
    (h : encodeFrame c target source sid p = .frame f) : f = buildFrame ⟨c.formatByte, target, source⟩ sid p := by
  rcases Nat.lt_or_ge c.maxPayload.toNat p.length with hp | hp
  · rw [encodeFrame_oversized _ _ _ _ _ hp] at h
    cases h
  · rw [encodeFrame_fits _ _ _ _ _ hp] at h
    exact (EncodeResult.frame.inj h).symm

/-- A sequence and its checksum, one byte of them changed, fail at line 2: a changed byte of the body moves the checksum
and not the last byte, a changed last byte the other way round. -/
theorem decodeFrame_of_corrupted (neg : Byte) {body : List Byte} {i : Nat} {v : Byte} (h : 4 ≤ body.length)
    (hi : i < (body ++ [checksumOf body]).length) (hv : v ≠ (body ++ [checksumOf body])[i]) :
    decodeFrame neg ((body ++ [checksumOf body]).set i v) = .error .checksumMismatch := by
  refine decodeFrame_of_bad_checksum neg ?_ ?_
  · rw [List.length_set, List.length_append, List.length_singleton]; omega
  rcases Nat.lt_or_ge i body.length with hbody | hlast
  · rw [List.getElem_append_left hbody] at hv
    rw [List.set_append_left _ _ hbody, List.getLastD_concat, List.dropLast_concat]
    exact (checksumOf_set_ne hbody hv).symm
  · obtain rfl : i = body.length := by rw [List.length_append, List.length_singleton] at hi; omega
    rw [List.getElem_concat_length rfl] at hv
    rw [List.set_append_right _ _ le_rfl, Nat.sub_self, List.set_cons_zero, List.getLastD_concat, List.dropLast_concat]
    exact hv

end Sys2Proof.Machine

namespace Sys2Proof.Proofs

open Machine

/-- Settles O11: the frame passes the checks of `DECODE`, and its SID decides the rest. -/
theorem decodeUndoesEncode : Obligations.DecodeUndoesEncode := by
  unfold Obligations.DecodeUndoesEncode
  intro c target source sid payload hp hmax
  have hfit : payload.length ≤ Config.maxPayload := hp.trans hmax
  refine ⟨_, encodeFrame_fits c target source sid payload hp, decodeFrame_buildFrame_service _ hfit, ?_, ?_⟩
  · rintro rfl rs ec rest rfl
    exact decodeFrame_buildFrame_negative _ rs ec hfit
  · rintro rfl hshort
    exact (decodeFrame_buildFrame _ _ _ _ hfit).trans (decodeBody_of_short_negative _ hshort)

/-- Settles O12: a frame is its body and the body's checksum, and one changed byte parts the two. -/
theorem singleByteCorruptionIsDetected : Obligations.SingleByteCorruptionIsDetected := by
  unfold Obligations.SingleByteCorruptionIsDetected
  intro c target source sid payload f hf i v hi hv
  obtain rfl := eq_buildFrame_of_encodeFrame hf
  exact decodeFrame_of_corrupted _ (by rw [frameBody_length]; omega) hi hv

/-- Settles O13: the lines of R122, each by its rule; a block above 260 bytes is longer than a length byte counts. -/
theorem decodeChecksInOrder : Obligations.DecodeChecksInOrder := by
  unfold Obligations.DecodeChecksInOrder
  intro neg b
  refine ⟨decodeFrame_of_short neg, fun h hc => ?_, fun hc => ?_⟩
  · have hne : b ≠ [] := List.ne_nil_of_length_pos (by omega)
    exact decodeFrame_of_bad_checksum neg h (mt (getLastD_eq_iff hne _ _).1 hc)
  have hsum : b.getLastD 0#8 = checksumOf b.dropLast := by rw [List.getLastD_eq_getLast?, hc, Option.getD_some]
  have hbyte := (b.getD 3 0#8).isLt
  refine ⟨fun h => decodeFrame_of_five_bytes neg h hsum, fun h => decodeFrame_of_bad_length neg h hsum,
    fun h => decodeFrame_of_bad_length neg (by omega) hsum (by omega), fun h hl => ?_⟩
  have hlen := payloadOf_length b
  rw [decodeFrame_of_checked neg h hsum hl]
  refine ⟨?_, ?_, ?_⟩
  · intro hsid hshort
    rw [hsid, decodeBody_of_short_negative neg (by omega)]
  · intro hsid hlong
    rw [hsid, decodeBody_of_negative neg (by omega), payloadOf_getD (by omega), payloadOf_getD (by omega)]
  · intro hsid
    rw [decodeBody_of_service _ hsid, payloadOf_eq]

end Sys2Proof.Proofs
end

section
/-! The starts and the cancel of an initialization, the handlers of the ISM inside and outside their guards, and the
write of the StartCommunication frame: the rules the obligations O18 to O29 rest on. -/

namespace Sys2Proof.Machine

/-! ### Starting and cancelling (R152, R153, R160, R180) -/

/-- While an initialization runs or the SD is not at rest, a start is refused (R152 lines 1 and 2, R282). -/
theorem startInit_of_busy (mode : InitMode) (a : Byte) (k : State → State) {s : State}
    (h : s.linkState = .synchronizing ∨ s.pendingValid = true ∨ s.queue ≠ []) :
    startInit mode a k s = s.emit (.ack (.err .busy)) := by
  have hnot : s.linkState ≠ .synchronizing → ¬ s.sdIdle = true := fun hlink hidle => by
    obtain ⟨hp, hq⟩ := (sdIdle_iff s).1 hidle
    simp [hlink, hp, hq] at h
  rcases startInit_cases mode a k s with ⟨-, he⟩ | ⟨hlink, hidle, -⟩ | ⟨hlink, hidle, -⟩
  · exact he
  · exact absurd hidle (hnot hlink)
  · exact absurd hidle (hnot hlink)

/-- A start that is not refused fails where the Transport is not open (R152 line 3, R299; log 14). -/
theorem startInit_of_closed (mode : InitMode) (a : Byte) (k : State → State) {s : State}
    (hlink : s.linkState ≠ .synchronizing) (hp : s.pendingValid = false) (hq : s.queue = [])
    (hclosed : s.tOpen = false) :
    startInit mode a k s = failWith .transportNotOpen ((callIsOpen s).emit (.ack (.err .transportNotOpen))) := by
  have hidle : s.sdIdle = true := (sdIdle_iff s).2 ⟨hp, hq⟩
  rcases startInit_cases mode a k s with ⟨hbusy, -⟩ | ⟨-, -, -, he⟩ | ⟨-, -, hopen, -⟩
  · simp [hlink, hidle] at hbusy
  · exact he
  · simp [hclosed] at hopen

/-- Either variant is `START_INIT` with a mode and a beginning of its own (R152 line 6). -/
theorem exec_startInit {i : Instr} {a : Byte} (h : i = .startInit5Baud a ∨ i = .startInitFast a) (s : State) :
    ∃ mode k, exec i s = .next (startInit mode a k s) := by
  rcases h with rfl | rfl
  · exact ⟨.fiveBaud, beginFiveBaud, rfl⟩
  · exact ⟨.fast, beginFast, rfl⟩

/-- The fast variant fails when the line does not go low (R159, R160). -/
theorem beginFast_accepted_of_failure {s : State} (a : Byte) (hopen : s.tOpen = true) (ha : s.answer = false) :
    beginFast (accepted .fast a s) =
      { s with
        ismState := .failed, initTimer := 0#16, txLen := 0#9, tLineLow := Config.freeLineLow s.callNo
        ecuAddr := a, ecuAddrWritten := true, initMode := .fast, failReason := .ioSetLineState
        answers := s.answers.tail, callNo := s.callNo + 1
        outputs := s.outputs ++
          [.call (.isOpen true), .ack .ok, .notify .synchronizing, .call (.setLineState true false),
            .notify (.failed .ioSetLineState)] } := by
  have ha' : (accepted .fast a s).answer = false := ha
  rw [beginFast, if_neg (Bool.eq_false_iff.1 ha'), failWith_of_setLineState_failure _ _ ha']
  simp only [accepted, callIsOpen, State.emit, hopen, List.append_assoc, List.cons_append, List.nil_append]

/-- The 5-baud variant fails when the line does not go low (R153, R159). -/
theorem beginFiveBaud_accepted_of_failure {s : State} (a : Byte) (hopen : s.tOpen = true) (ha : s.answer = false) :
    beginFiveBaud (accepted .fiveBaud a s) =
      { s with
        ismState := .failed, bitIdx := 0#4, initTimer := 0#16, txLen := 0#9, tLineLow := Config.freeLineLow s.callNo
        ecuAddr := a, ecuAddrWritten := true, initMode := .fiveBaud, failReason := .ioSetLineState
        answers := s.answers.tail, callNo := s.callNo + 1
        outputs := s.outputs ++
          [.call (.isOpen true), .ack .ok, .notify .synchronizing, .status .startingFiveBaud,
            .call (.setLineState true false), .notify (.failed .ioSetLineState)] } := by
  have ha' :
      ({ (accepted .fiveBaud a s).emit (.status .startingFiveBaud) with bitIdx := 0#4 } : State).answer = false := ha
  simp only [beginFiveBaud, ha', Bool.false_eq_true, if_false, failWith_of_setLineState_failure _ _ ha']
  simp only [accepted, callIsOpen, State.emit, hopen, List.append_assoc, List.cons_append, List.nil_append]

/-- With no initialization running, `CANCEL_INIT` only acknowledges (R180). -/
theorem exec_cancelInit_of_not_synchronizing {s : State} (h : s.linkState ≠ .synchronizing) :
    exec .cancelInit s = .next (s.emit (.ack .noEffect)) := by
  simp only [exec, execCancelInit, if_pos h]

/-- A running one it ends with the two cleanup calls and the failure entry (R180). -/
theorem exec_cancelInit_of_synchronizing {s : State} (h : s.linkState = .synchronizing) :
    exec .cancelInit s =
      .next (failWith .cancelled
        (callSetLineState false (callSetBaudRate s.cfg.baudSteady (s.emit (.ack .ok))))) := by
  simp only [exec, execCancelInit, if_neg (not_not.2 h)]

/-- The line's call after the rate's takes the answer after that one (R10); neither looks at the other's. -/
theorem callSetLineState_callSetBaudRate (low : Bool) (bps : Rate) (s : State) :
    callSetLineState low (callSetBaudRate bps s) =
      { s with
        tBaud := if s.answer then bps else Config.freeBaud s.callNo
        tLineLow := if s.takeAnswer.answer then low else Config.freeLineLow (s.callNo + 1)
        answers := s.answers.tail.tail, callNo := s.callNo + 2
        outputs := s.outputs ++
          [.call (.setBaudRate bps s.answer), .call (.setLineState low s.takeAnswer.answer)] } := by
  have hanswer : (callSetBaudRate bps s).answer = s.takeAnswer.answer := rfl
  simp only [callSetLineState, hanswer]
  simp only [callSetBaudRate, State.takeAnswer, State.emit, List.append_assoc, List.cons_append, List.nil_append]

/-! ### The timed states (R156, R157, R161) -/

/-- In the last bit a Tick is one of the bit's timer (R155, R156). -/
theorem exec_tickAddressDone {s : State} (hs : s.ismState = .sendingAddress) (hb : s.bitIdx = 9#4) :
    exec .tickSendingAddressDone s = .next (tickInit addressDone s) := by
  simp only [exec, execTickSendingAddressDone, hs, hb, and_self, if_true]

/-- In the settle interval a Tick is one of its timer (R157). -/
theorem exec_tickAwaitingSync {s : State} (hs : s.ismState = .awaitingSync) :
    exec .tickAwaitingSync s = .next (tickInit enterReady s) := by
  simp only [exec, execTickAwaitingSync, hs, if_true]

/-- In the low pulse a Tick is one of the pulse's timer (R161). -/
theorem exec_tickPulseLow {s : State} (hs : s.ismState = .pulseLow) :
    exec .tickPulseLow s = .next (tickInit pulseLowDone s) := by
  simp only [exec, execTickPulseLow, hs, if_true]

/-- After the stop bit the steady rate is set (R156). -/
theorem addressDone_of_ok {s : State} (h : s.answer = true) :
    addressDone s =
      { s with
        ismState := .awaitingSync, initTimer := s.cfg.tSettle, tBaud := s.cfg.baudSteady
        answers := s.answers.tail, callNo := s.callNo + 1
        outputs := s.outputs ++ [.call (.setBaudRate s.cfg.baudSteady true)] } := by
  rw [addressDone, if_pos h, callSetBaudRate_of_ok _ h]

/-- The call fails and so does the run (R159). -/
theorem addressDone_of_failure {s : State} (h : s.answer = false) :
    addressDone s =
      { s with
        ismState := .failed, failReason := .ioSetBaudRate, initTimer := 0#16, txLen := 0#9
        tBaud := Config.freeBaud s.callNo, answers := s.answers.tail, callNo := s.callNo + 1
        outputs := s.outputs ++
          [.call (.setBaudRate s.cfg.baudSteady false), .notify (.failed .ioSetBaudRate)] } := by
  rw [addressDone, if_neg (Bool.eq_false_iff.1 h), failWith_of_setBaudRate_failure _ _ h]

/-! ### The write of the StartCommunication frame (R176) -/

/-- The internal action of `SendingStartComm`, and the row `SID_START_COMMUNICATION` where the frame has its SID, are
the write of `tx_frame` (log 17). -/
theorem exec_ismWriteRow {s : State} {i : Instr} (hs : s.ismState = .sendingStartComm)
    (hi : i = .tauIsmWrite ∨ (i = .sidStartCommunication ∧ s.txFrame.read 4 = s.cfg.sidStartComm)) :
    exec i s = writeTx s := by
  have hw := (ismWriteEnabled_iff s).2 hs
  rcases hi with rfl | ⟨rfl, hsid⟩
  · exact if_pos hw
  · exact if_pos (Bool.and_eq_true_iff.2 ⟨hw, decide_eq_true hsid⟩)

/-- A frame within the buffer is written without a fault (R50; log 24). -/
theorem writeTx_of_le {s : State} (h : s.txLen.toNat ≤ 260) : writeTx s = .next (ismWrite s) :=
  if_neg (Nat.not_lt.2 h)

/-- After the write the link is ready. -/
theorem ismWrite_of_ok {s : State} (h : s.answer = true) :
    ismWrite s =
      { s with
        ismState := .ready, txLen := 0#9, answers := s.answers.tail, callNo := s.callNo + 1
        outputs := s.outputs ++ [.call (.write s.txBytes true), .notify .ready, .status .initSuccessful] } := by
  rw [ismWrite, if_pos h, enterReady_eq]
  simp only [sendTx, callWrite, State.takeAnswer, State.emit, h, List.append_assoc, List.cons_append, List.nil_append]

/-- The write fails and so does the run (R159). -/
theorem ismWrite_of_failure {s : State} (h : s.answer = false) :
    ismWrite s =
      { s with
        ismState := .failed, failReason := .ioWrite, initTimer := 0#16, txLen := 0#9
        answers := s.answers.tail, callNo := s.callNo + 1
        outputs := s.outputs ++ [.call (.write s.txBytes false), .notify (.failed .ioWrite)] } := by
  rw [ismWrite, if_neg (Bool.eq_false_iff.1 h)]
  simp only [sendTx, callWrite, State.takeAnswer, failWith, State.emit, h, List.append_assoc, List.cons_append,
    List.nil_append]

/-! ### Outside the guards (R151; log 16, 17) -/

/-- What runs only under a guard that does not hold changes nothing. -/
theorem next_guarded {c : Prop} [Decidable c] (h : ¬ c) (t s : State) :
    (Host.Outcome.next (if c then t else s) : StepOutcome) = .next s :=
  congrArg Host.Outcome.next (if_neg h)

/-- A request row changes nothing while its request is not the one about to be written (R210; log 17). -/
theorem next_requestRow {s : State} {req : ServiceRequest} (t : State)
    (h : s.dispatchEnabled = false ∨ s.queue.head? ≠ some req) :
    (Host.Outcome.next (if s.dispatchEnabled && s.queue.head? = some req then t else s) : StepOutcome) = .next s := by
  refine next_guarded (fun hrow => ?_) t s
  obtain ⟨hen, hhead⟩ := Bool.and_eq_true_iff.1 hrow
  exact h.elim (Bool.eq_false_iff.1 · hen) (· (of_decide_eq_true hhead))

/-- Outside `SendingStartComm` the ISM writes nothing (R176). -/
theorem exec_tauIsmWrite_of_other_state {s : State} (h : s.ismState ≠ .sendingStartComm) :
    exec .tauIsmWrite s = .next s :=
  if_neg (mt (ismWriteEnabled_iff s).1 h)

/-- Nor does the row `SID_START_COMMUNICATION`, or with another frame in `tx_frame` (log 17). -/
theorem exec_sidStartCommunication_of_not_waiting {s : State}
    (h : s.ismState ≠ .sendingStartComm ∨ s.txFrame.read 4 ≠ s.cfg.sidStartComm) :
    exec .sidStartCommunication s = .next s := by
  refine if_neg fun hrow => ?_
  obtain ⟨hw, hsid⟩ := Bool.and_eq_true_iff.1 hrow
  exact h.elim (· ((ismWriteEnabled_iff s).1 hw)) (· (of_decide_eq_true hsid))

end Sys2Proof.Machine

namespace Sys2Proof.Proofs

open Machine

/-- Settles O18: either variant is refused, or fails on the open check, before its own beginning is reached. -/
theorem startInitRefusedOrNotOpen : Obligations.StartInitRefusedOrNotOpen := by
  unfold Obligations.StartInitRefusedOrNotOpen
  intro s a i hi
  obtain ⟨mode, k, hex⟩ := exec_startInit hi s
  rw [hex]
  refine ⟨fun h => ?_, fun hlink hp hq hclosed => ?_⟩
  · rw [startInit_of_busy mode a k h]
    rfl
  · rw [startInit_of_closed mode a k hlink hp hq hclosed]
    simp only [failWith, callIsOpen, State.emit, hclosed, List.append_assoc, List.cons_append, List.nil_append]

/-- Settles O19: the start is accepted, and the answer of `T.setLineState` decides. -/
theorem startInit5BaudBeginsTheStartBit : Obligations.StartInit5BaudBeginsTheStartBit := by
  unfold Obligations.StartInit5BaudBeginsTheStartBit
  intro s a hlink hp hq hopen
  have hex : exec (.startInit5Baud a) s = .next (beginFiveBaud (accepted .fiveBaud a s)) :=
    congrArg Host.Outcome.next (startInit_of_accepted .fiveBaud a beginFiveBaud hlink hp hq hopen)
  rw [hex]
  exact ⟨fun h => congrArg Host.Outcome.next (beginFiveBaud_accepted a hopen h),
    fun h => congrArg Host.Outcome.next (beginFiveBaud_accepted_of_failure a hopen h)⟩

/-- Settles O20: the start is accepted, and the answer of `T.setLineState` decides. -/
theorem startInitFastBeginsTheLowPulse : Obligations.StartInitFastBeginsTheLowPulse := by
  unfold Obligations.StartInitFastBeginsTheLowPulse
  intro s a hlink hp hq hopen
  have hex : exec (.startInitFast a) s = .next (beginFast (accepted .fast a s)) :=
    congrArg Host.Outcome.next (startInit_of_accepted .fast a beginFast hlink hp hq hopen)
  rw [hex]
  exact ⟨fun h => congrArg Host.Outcome.next (beginFast_accepted a hopen h),
    fun h => congrArg Host.Outcome.next (beginFast_accepted_of_failure a hopen h)⟩

/-- Settles O21: the second cleanup call takes the answer after the first one's, and neither answer is looked at. -/
theorem cancelInitCleansUpAndFails : Obligations.CancelInitCleansUpAndFails := by
  unfold Obligations.CancelInitCleansUpAndFails
  intro s
  refine ⟨exec_cancelInit_of_not_synchronizing, fun h => ?_⟩
  rw [exec_cancelInit_of_synchronizing h, callSetLineState_callSetBaudRate]
  simp only [failWith, State.emit, List.append_assoc, List.cons_append, List.nil_append]
  rfl

/-- Settles O23: the timer counts, or expires and the steady rate is set. -/
theorem tickAfterTheStopBitSetsTheRate : Obligations.TickAfterTheStopBitSetsTheRate := by
  unfold Obligations.TickAfterTheStopBitSetsTheRate
  intro s hs hb
  rw [exec_tickAddressDone hs hb]
  refine ⟨fun ht => by rw [tickInit_of_gt_one _ ht], fun ht => ?_⟩
  rw [tickInit_of_one _ ht]
  exact ⟨fun h => congrArg Host.Outcome.next (addressDone_of_ok (s := { s with initTimer := 0#16 }) h),
    fun h => congrArg Host.Outcome.next (addressDone_of_failure (s := { s with initTimer := 0#16 }) h)⟩

/-- Settles O24: the timer counts, or expires and `Ready` is entered. -/
theorem tickAwaitingSyncEndsInReady : Obligations.TickAwaitingSyncEndsInReady := by
  unfold Obligations.TickAwaitingSyncEndsInReady
  intro s hs
  rw [exec_tickAwaitingSync hs]
  refine ⟨fun ht => by rw [tickInit_of_gt_one _ ht], fun ht => ?_⟩
  rw [tickInit_of_one _ ht, enterReady_eq]

/-- Settles O25: the timer counts, or expires and the line goes high. -/
theorem tickPulseLowRaisesTheLine : Obligations.TickPulseLowRaisesTheLine := by
  unfold Obligations.TickPulseLowRaisesTheLine
  intro s hs
  rw [exec_tickPulseLow hs]
  refine ⟨fun ht => by rw [tickInit_of_gt_one _ ht], fun ht => ?_⟩
  rw [tickInit_of_one _ ht]
  exact ⟨fun h => congrArg Host.Outcome.next (pulseLowDone_of_ok (s := { s with initTimer := 0#16 }) h),
    fun h => congrArg Host.Outcome.next (pulseLowDone_of_failure (s := { s with initTimer := 0#16 }) h)⟩

/-- Settles O27: both rows are the write of `tx_frame`, whose answer decides. -/
theorem startCommFrameIsWrittenThenReady : Obligations.StartCommFrameIsWrittenThenReady := by
  unfold Obligations.StartCommFrameIsWrittenThenReady
  intro s i hs hlen hi
  rw [exec_ismWriteRow hs hi, writeTx_of_le hlen]
  exact ⟨fun h => congrArg Host.Outcome.next (ismWrite_of_ok h),
    fun h => congrArg Host.Outcome.next (ismWrite_of_failure h)⟩

/-- Settles O28: the procedure is the failure entry, by its definition. -/
theorem failEntersFailed : Obligations.FailEntersFailed := by
  unfold Obligations.FailEntersFailed
  exact fun s r => rfl

/-- Settles O29: in each clause the guard of the handler, of the action or of the row does not hold. -/
theorem handlersOutsideTheirStateDoNothing : Obligations.HandlersOutsideTheirStateDoNothing := by
  unfold Obligations.HandlersOutsideTheirStateDoNothing
  intro s
  exact ⟨fun h => next_guarded (not_and_or.2 (h.imp_right BitVec.not_lt.2)) _ s,
    fun h => next_guarded (not_and_or.2 h) _ s,
    fun h => next_guarded h _ s,
    fun h => next_guarded h _ s,
    fun h => next_guarded h _ s,
    exec_tauIsmWrite_of_other_state,
    exec_sidStartCommunication_of_not_waiting,
    exec_tauDispatch_of_disabled,
    next_requestRow _,
    next_requestRow _⟩

end Sys2Proof.Proofs
end

section
/-! Requests refused or cancelled, writes after which nothing is awaited, discarded blocks and the ticks of the response
timer: the rules the obligations O31, O34, O36 to O40, O44 and O57 rest on. -/

namespace Sys2Proof.Machine

/-! ### Refusals (R201, R290, R305) -/

/-- A payload that is too long is refused before anything else is looked at (R201 line 1). -/
theorem acceptRequest_of_oversized {s : State} (sid : Byte) {payload : List Byte}
    (h : s.cfg.maxPayload.toNat < payload.length) :
    acceptRequest sid payload s = s.emit (.ack (.err .invalidPayload)) :=
  if_pos h

/-- A request that fits is refused for the link, for a full queue, and in `Reject` mode for another request (R201
lines 2 to 4): each of these contradicts the case in which every check is passed. -/
theorem acceptRequest_of_busy {s : State} (sid : Byte) {payload : List Byte}
    (hfit : payload.length ≤ s.cfg.maxPayload.toNat)
    (h : s.ismState ≠ .ready ∨ s.queue.length = s.cfg.queueDepth ∨
      (s.cfg.queueMode = .reject ∧ (s.pendingValid = true ∨ s.queue ≠ []))) :
    acceptRequest sid payload s = s.emit (.ack (.err .busy)) := by
  unfold acceptRequest
  rw [if_neg (Nat.not_lt.2 hfit)]
  split_ifs with hlink hreject hfull
  · rfl
  · rfl
  · rfl
  · rcases h with hstate | hdepth | ⟨hmode, hother⟩
    · exact absurd ((linkState_ready_iff s).1 (not_not.1 hlink)) hstate
    · exact absurd (decide_eq_true hdepth) hfull
    · rcases hother with hp | hq
      · exact absurd (by simp [hmode, hp]) hreject
      · exact absurd (by simp [hmode, hq, State.queueEmpty]) hreject

/-! ### Resolution (R227) -/

/-- `CANCEL_REQUEST` with nothing pending only acknowledges (R230). -/
theorem exec_cancelRequest_of_not_pending {s : State} (h : s.pendingValid = false) :
    exec .cancelRequest s = .next (s.emit (.ack .noEffect)) := by
  simp only [exec, execCancelRequest, h, Bool.not_false, if_true]

/-- With a request pending it acknowledges and resolves that request (R230). -/
theorem exec_cancelRequest_of_pending {s : State} (h : s.pendingValid = true) :
    exec .cancelRequest s = .next (resolveWith (.err .cancelled) (s.emit (.ack .ok))) := by
  simp only [exec, execCancelRequest, h, Bool.not_true, Bool.false_eq_true, if_false]

/-- The resolution of a request that never became pending (R211, R212). -/
theorem resolveWith_of_not_pending {s : State} (r : RequestResult) (h : s.pendingValid = false) :
    resolveWith r s =
      { s with
        respTimer := 0#16, guardTimer := s.cfg.tP3Min, outputs := s.outputs ++ [.result r] } := by
  simp only [resolveWith, State.emit, h]

/-! ### Writes after which nothing is awaited (R211, R212) -/

/-- The written request expects no response: it is done (R211). -/
theorem afterWrite_of_unexpected {req : ServiceRequest} (s : State) (h : req.expectsResponse = false) :
    afterWrite req true s = resolveWith .sent s := by
  simp only [afterWrite, h, Bool.not_true, Bool.false_eq_true, if_false]

/-- The write failed, whatever the request expects (R212). -/
theorem afterWrite_of_failure (req : ServiceRequest) (s : State) :
    afterWrite req false s = (resolveWith (.err .transportIoFailure) s).emit .reinitRequest :=
  rfl

/-- Loading the frame of a request leaves the bytes of `tx_frame` beyond it (R57). -/
theorem read_writeBytes_requestFrame_beyond (m : Memory) (s : State) (req : ServiceRequest) {a : Nat}
    (h : 6 + req.payload.length ≤ a) : (m.writeBytes 0 (requestFrame s req)).read a = m.read a :=
  Memory.read_writeBytes_outside _ _ _ _ (.inr (by simpa using h))

/-! ### Discarded blocks (R218, R219) -/

/-- A block on which `DECODE` fails is copied and logged (R218, R220). -/
theorem receive_malformed {s : State} {block : List Byte} {e : DecodeErr}
    (hd : decodeFrame s.cfg.negRespSid block = .error e) :
    receive block s = { s with outputs := s.outputs ++ [.rawRx block, .log (.decodeError e)] } := by
  simp only [receive, hd, handleFrame, State.emit, List.append_assoc, List.cons_append, List.nil_append]

/-- A service response that is not awaited is copied and logged (R219). -/
theorem receive_unawaited {s : State} {block : List Byte} {sid : Byte} {p : List Byte}
    (hd : decodeFrame s.cfg.negRespSid block = .service sid p)
    (h : s.pendingValid = false ∨ sid ≠ s.awaitedSid) :
    receive block s = { s with outputs := s.outputs ++ [.rawRx block, .log .unmatched] } := by
  have hunmatched : ¬ (s.pendingValid && sid = s.awaitedSid) = true := fun hmatch => by
    obtain ⟨hp, hs⟩ := Bool.and_eq_true_iff.1 hmatch
    exact h.elim (Bool.eq_false_iff.1 · hp) (· (of_decide_eq_true hs))
  have hlogged : receive block s = (s.emit (.rawRx block)).emit (.log .unmatched) := by
    rw [receive, hd]
    exact if_neg hunmatched
  rw [hlogged]
  simp only [State.emit, List.append_assoc, List.cons_append, List.nil_append]

/-- A negative response with nothing pending is copied and logged (R219). -/
theorem receive_negative_of_not_pending {s : State} {block : List Byte} {rs ec : Byte}
    (hd : decodeFrame s.cfg.negRespSid block = .negative rs ec) (h : s.pendingValid = false) :
    receive block s = { s with outputs := s.outputs ++ [.rawRx block, .log .unmatched] } := by
  simp only [receive, hd, handleFrame, State.emit, h, Bool.false_eq_true, if_false, List.append_assoc,
    List.cons_append, List.nil_append]

/-- In a state of the invariant the SID of testerPresent's answer is awaited by nobody (R201, R210, R345). -/
theorem Inv.testerPresent_unawaited {s : State} (hi : Inv s) :
    s.pendingValid = false ∨ s.cfg.sidTesterPresent + s.cfg.posRespOffset ≠ s.awaitedSid := by
  cases hp : s.pendingValid
  · exact .inl rfl
  · exact .inr fun h => hi.buffers.awaited hp ((BitVec.add_left_inj _).1 h).symm

/-! ### The ticks of the response timer (R11, R225) -/

/-- While a request is pending a Tick is the SD's alone (R151, R225). -/
theorem step_tick_of_pending {s : State} (hr : s.ismState = .ready) (hp : s.pendingValid = true) :
    step (s.present .tick) = .next (tickDispatcher { s with presented := none }) := by
  have htau : s.tauEnabled = false := by
    simp [State.tauEnabled, State.ismWriteEnabled, hr, dispatchEnabled_of_pending hp]
  have huntimed : timedState s.ismState = false := by rw [hr]; rfl
  rw [step_tick s htau, acceptTick_untimed { s with presented := none } huntimed]

/-- Waiting for the response with the guard at 0: up to its last tick the response timer counts, and nothing else
changes (R11). -/
theorem ticks_pending (k : Nat) {s : State} (hr : s.ismState = .ready) (hp : s.pendingValid = true)
    (hg : s.guardTimer = 0#16) (hk : k < s.respTimer.toNat) :
    ∃ p r, ticks k s = .next { s with presented := p, respTimer := r } ∧ r.toNat = s.respTimer.toNat - k := by
  induction k generalizing s with
  | zero => exact ⟨s.presented, s.respTimer, rfl, rfl⟩
  | succ k ih =>
    have hdec : (s.respTimer - 1#16).toNat = s.respTimer.toNat - 1 := by bv_omega
    have hstep : step (s.present .tick) =
        .next { s with presented := none, respTimer := s.respTimer - 1#16 } := by
      rw [step_tick_of_pending hr hp,
        tickDispatcher_of_waiting (s := { s with presented := none }) hp (show s.respTimer ≠ 1#16 by bv_omega)]
      simp only [hg, countDown_zero, countDown_of_ne_zero (show s.respTimer ≠ 0#16 by bv_omega)]
    obtain ⟨p, r, he, hleft⟩ := ih (s := { s with presented := none, respTimer := s.respTimer - 1#16 }) hr hp hg
      (show k < (s.respTimer - 1#16).toNat by omega)
    refine ⟨p, r, ?_, ?_⟩
    · simp only [ticks, hstep, andThen]
      exact he
    · have hleft' : r.toNat = (s.respTimer - 1#16).toNat - k := hleft
      omega

/-- The tick that ends the response timer resolves the request (R225, R241). -/
theorem ticks_timeout {s : State} (hr : s.ismState = .ready) (hp : s.pendingValid = true)
    (hg : s.guardTimer = 0#16) (ht : s.respTimer ≠ 0#16) :
    ticks s.respTimer.toNat s =
      .next (resolveWith (.err .responseTimeout) { s with presented := none, respTimer := 1#16 }) := by
  have hpos : 0 < s.respTimer.toNat := by bv_omega
  obtain ⟨p, r, he, hleft⟩ := ticks_pending (s.respTimer.toNat - 1) hr hp hg (by omega)
  have hlast : r = 1#16 := by bv_omega
  subst hlast
  have hstep : step ({ s with presented := p, respTimer := 1#16 }.present .tick) = _ :=
    step_tick_of_pending hr hp
  rw [← Nat.sub_add_cancel hpos, ticks_add_of_next he]
  simp only [ticks, hstep, andThen]
  exact congrArg Host.Outcome.next (tickDispatcher_of_timeout hp rfl)

end Sys2Proof.Machine

namespace Sys2Proof.Proofs

open Machine

/-- Settles O36: each row is the enabled `Dispatch`, whose successful write resolves the request. -/
theorem dispatchFireAndForget : Obligations.DispatchFireAndForget := by
  unfold Obligations.DispatchFireAndForget
  intro s req rest i hr hp hg hq hfit hexp ha hi
  have hd : s.dispatchEnabled = true := (dispatchEnabled_iff s).2 ⟨hr, hp, by simp [hq], hg⟩
  refine ⟨s.txFrame.writeBytes 0 (requestFrame s req), _, _, rfl, rfl, ?_,
    fun a h => read_writeBytes_requestFrame_beyond _ s req h⟩
  rw [exec_dispatchRow hd hq (hi.imp_right .inr), dispatch_head hq hfit, ha, afterWrite_of_unexpected _ hexp,
    resolveWith_of_not_pending _ (by exact hp), requestFrame_eq]
  simp only [List.append_assoc, List.cons_append, List.nil_append]
  rfl

/-- Settles O37: each row is the enabled `Dispatch`, whose failed write resolves the request. -/
theorem dispatchWriteFailureResolves : Obligations.DispatchWriteFailureResolves := by
  unfold Obligations.DispatchWriteFailureResolves
  intro s req rest i hr hp hg hq hfit ha hi
  have hd : s.dispatchEnabled = true := (dispatchEnabled_iff s).2 ⟨hr, hp, by simp [hq], hg⟩
  refine ⟨s.txFrame.writeBytes 0 (requestFrame s req), requestFrame s req, encodeFrame_fits _ _ _ _ _ hfit, ?_,
    fun a h => read_writeBytes_requestFrame_beyond _ s req h⟩
  rw [exec_dispatchRow hd hq hi, dispatch_head hq hfit, ha, afterWrite_of_failure,
    resolveWith_of_not_pending _ (by exact hp)]
  simp only [State.emit, List.append_assoc, List.cons_append, List.nil_append]

/-- Settles O39: every inbound row is the receipt of its bytes, and these are noise. -/
theorem malformedBlockIsNoise : Obligations.MalformedBlockIsNoise := by
  unfold Obligations.MalformedBlockIsNoise
  intro s i block e hi hd
  rw [exec_inbound i block s hi, receive_malformed hd]

/-- Settles O40: every inbound row is the receipt of its bytes, a response that is not awaited or a negative one with
nothing pending. -/
theorem unmatchedFrameChangesNothing : Obligations.UnmatchedFrameChangesNothing := by
  unfold Obligations.UnmatchedFrameChangesNothing
  intro s i block hi h
  rw [exec_inbound i block s hi]
  rcases h with ⟨sid, p, hd, hunawaited⟩ | ⟨rs, ec, hd, hp⟩
  · rw [receive_unawaited hd hunawaited]
  · rw [receive_negative_of_not_pending hd hp]

/-- Settles O44: both rows carry a service response, which O40 discards; testerPresent's own is never awaited. -/
theorem unawaitedAnswersAreDiscarded : Obligations.UnawaitedAnswersAreDiscarded := by
  unfold Obligations.UnawaitedAnswersAreDiscarded
  intro s hdr p hp
  refine ⟨fun hneg h => ?_, fun hneg h => ?_⟩
  · have hunawaited : s.pendingValid = false ∨ 0x7E#8 ≠ s.awaitedSid := by
      rcases h with hnone | hother | ⟨hi, hsid⟩
      · exact .inl hnone
      · exact .inr hother.symm
      · exact hsid ▸ hi.testerPresent_unawaited
    exact unmatchedFrameChangesNothing s _ _ rfl
      (.inl ⟨_, p, decodeFrame_buildFrame_service hdr hp hneg.symm, hunawaited⟩)
  · exact unmatchedFrameChangesNothing s _ _ rfl
      (.inl ⟨_, p, decodeFrame_buildFrame_service hdr hp hneg.symm, h.imp_right Ne.symm⟩)

/-- Settles O57: a pending request keeps the link in `Ready` (I1), the guard at 0 (I10) and its timer running (I3);
all ticks but the last only count, and the last is the timeout. -/
theorem unansweredRequestTimesOut : Obligations.UnansweredRequestTimesOut := by
  unfold Obligations.UnansweredRequestTimesOut
  intro s hi hp
  have hr : s.ismState = .ready := hi.spec.pendingReady hp
  have hg : s.guardTimer = 0#16 := hi.spec.guardOpen hp
  refine ⟨fun k hk => ?_, ?_⟩
  · obtain ⟨p, r, he, -⟩ := ticks_pending k hr hp hg hk
    exact ⟨_, he, hp, rfl⟩
  · exact ⟨_, ticks_timeout hr hp hg (hi.spec.respTimer.2 hp), rfl, rfl, rfl, hr, rfl⟩

/-- Settles O31: too long, or busy for the first reason that holds. -/
theorem sendServiceRefusals : Obligations.SendServiceRefusals := by
  unfold Obligations.SendServiceRefusals
  intro s sid payload
  exact ⟨fun h => congrArg Host.Outcome.next (acceptRequest_of_oversized sid h),
    fun hfit h => congrArg Host.Outcome.next (acceptRequest_of_busy sid hfit h)⟩

/-- Settles O34: with a request pending it is resolved after the acknowledgement, else there is only that. -/
theorem cancelRequestResolvesThePending : Obligations.CancelRequestResolvesThePending := by
  unfold Obligations.CancelRequestResolvesThePending
  intro s
  refine ⟨exec_cancelRequest_of_not_pending, fun h => ?_⟩
  rw [exec_cancelRequest_of_pending h]
  simp only [resolveWith, State.emit, List.append_assoc, List.cons_append, List.nil_append]

/-- Settles O38: the procedure is the resolution, by its definition. -/
theorem resolveLoadsTheGuard : Obligations.ResolveLoadsTheGuard := by
  unfold Obligations.ResolveLoadsTheGuard
  exact fun s r => rfl

end Sys2Proof.Proofs
end

section
/-! Which of the events ready together a step takes, and that from a state of the invariant it answers a next state: the
rules the obligations O9, O47 and O51 rest on. -/

namespace Sys2Proof.Machine

/-! ### The event a step takes (R10, R297) -/

/-- The event fetched is the one processed (R10). -/
theorem step_of_fetch {s t : State} {e : Event} (h : fetch s = (some e, t)) : step s = accept e t := by
  simp only [step, h]

/-- With nothing ready the block is idle (R296). -/
theorem step_of_fetch_none {s t : State} (h : fetch s = (none, t)) : step s = .next t := by
  simp only [step, h]

/-- With nothing presented the events of the present instant are arbitrated (R297). -/
theorem fetch_of_not_presented {s : State} {now : Instant} {later : List Instant} (hp : s.presented = none)
    (hi : s.inputs = now :: later) : fetch s = arbitrate now later s := by
  simp only [fetch, hp, hi]

section
variable {now : Instant} (later : List Instant) {s : State}
  (hreset : now.reset = false) (hopen : now.transportOpen = none)
include hreset hopen

/-- A cancel comes first. -/
theorem arbitrate_cancel {c : List Byte} (hc : now.cmds.find? (isCancel s.cfg) = some c) :
    arbitrate now later s = (some (.cmd c), { s with inputs := { now with cmds := now.cmds.erase c } :: later }) := by
  simp only [arbitrate, hreset, hopen, hc, Bool.false_eq_true, if_false]

variable (hcancel : now.cmds.find? (isCancel s.cfg) = none)
include hcancel

/-- Without a cancel an inbound block comes first. -/
theorem arbitrate_rx {b : List Byte} {rest : List (List Byte)} (hrx : now.rx = b :: rest) :
    arbitrate now later s = (some (.rx b), { s with inputs := { now with rx := rest } :: later }) := by
  simp only [arbitrate, hreset, hopen, hcancel, hrx, Bool.false_eq_true, if_false]

variable (hrx : now.rx = [])
include hrx

/-- Without these an enabled internal action comes first. -/
theorem arbitrate_tau (htau : s.tauEnabled = true) : arbitrate now later s = (some .tau, s) := by
  simp only [arbitrate, hreset, hopen, hcancel, hrx, htau, Bool.false_eq_true, if_false, if_true]

variable (htau : s.tauEnabled = false)
include htau

/-- Without that the Tick comes first. -/
theorem arbitrate_tick (htick : now.tick = true) :
    arbitrate now later s = (some .tick, { s with inputs := { now with tick := false } :: later }) := by
  simp only [arbitrate, hreset, hopen, hcancel, hrx, htau, htick, Bool.false_eq_true, if_false, if_true]

/-- The other commands come last. -/
theorem arbitrate_command (htick : now.tick = false) {c : List Byte} {rest : List (List Byte)}
    (hc : now.cmds = c :: rest) :
    arbitrate now later s = (some (.cmd c), { s with inputs := { now with cmds := rest } :: later }) := by
  rw [hc] at hcancel
  simp only [arbitrate, hreset, hopen, hc, hcancel, hrx, htau, htick, Bool.false_eq_true, if_false]

end

/-! ### From a state of the invariant every event leads to a next state (R281, R319) -/

/-- Bytes at the command port are a command, and every command has a next state, or they are ignored. -/
theorem acceptCommand_next {s : State} (h : Inv s) (bytes : List Byte) : ∃ t, acceptCommand bytes s = .next t := by
  unfold acceptCommand
  split
  · next i hi =>
    obtain ⟨t, ht, -⟩ := exec_command_inv (decodeCommand_isCommand hi) h
    exact ⟨t, ht⟩
  · exact ⟨s, rfl⟩

/-- The one operation that can fault is the write in `SendingStartComm`, whose frame is within the buffer (R50). -/
theorem acceptTau_next {s : State} (h : Inv s) : ∃ t, acceptTau s = .next t := by
  by_cases hs : s.ismState = .sendingStartComm
  · obtain ⟨t, ht, -⟩ := writeTx_inv h hs
    exact ⟨t, by rw [acceptTau_of_sendingStartComm hs, exec_ismWriteRow hs (.inl rfl), ht]⟩
  · exact ⟨_, acceptTau_of_not_sendingStartComm hs⟩

theorem accept_next {s : State} (h : Inv s) (e : Event) : ∃ t, accept e s = .next t := by
  cases e with
  | cmd bytes => exact acceptCommand_next h bytes
  | rx b => exact ⟨_, exec_decodeBlock _ b s⟩
  | tick =>
    obtain ⟨t, ht, -⟩ := acceptTick_inv h
    exact ⟨t, ht⟩
  | tau => exact acceptTau_next h
  | transportOpen b => exact ⟨_, rfl⟩
  | reset => exact ⟨_, rfl⟩

/-- Fetching writes no register, so what is fetched is processed from a state of the invariant. -/
theorem step_next {s : State} (h : Inv s) : ∃ t, step s = .next t := by
  obtain ⟨p, i, hf⟩ := fetch_frame s
  have hu : Inv (fetch s).2 := hf ▸ h.environment p i s.answers s.tOpen
  cases he : (fetch s).1 with
  | none => exact ⟨_, step_of_fetch_none (Prod.ext he rfl)⟩
  | some e =>
    rw [step_of_fetch (Prod.ext he rfl)]
    exact accept_next hu e

/-! ### The read channel (R315) -/

/-- A delivery goes to the present instant, which begins with it where nothing is to come (log 12). -/
theorem deliver_eq (block : List Byte) (s : State) :
    deliver block s =
      { s with
        inputs := { s.inputs.head?.getD {} with rx := (s.inputs.head?.getD {}).rx ++ [block] } :: s.inputs.tail } := by
  cases h : s.inputs with
  | nil => simp only [deliver, h, List.head?_nil, Option.getD_none, List.nil_append, List.tail_nil]
  | cons now later => simp only [deliver, h, List.head?_cons, Option.getD_some, List.tail_cons]

end Sys2Proof.Machine

namespace Sys2Proof.Proofs

open Machine

/-- Settles O9: each clause is one case of the arbitration, which is what a step fetches with nothing presented. -/
theorem simultaneousEventsInFixedOrder : Obligations.SimultaneousEventsInFixedOrder := by
  unfold Obligations.SimultaneousEventsInFixedOrder
  intro s now later hp hi hreset hopen
  have taken {e : Event} {t : State} (h : arbitrate now later s = (some e, t)) : step s = accept e t :=
    step_of_fetch ((fetch_of_not_presented hp hi).trans h)
  refine ⟨fun c hc => taken (arbitrate_cancel later hreset hopen hc), fun hcancel => ⟨fun b rest hrx => ?_,
    fun hrx => ⟨fun htau => ?_, fun htau => ⟨fun htick => ?_, fun htick c rest hc => ?_⟩⟩⟩⟩
  · exact taken (arbitrate_rx later hreset hopen hcancel hrx)
  · exact taken (arbitrate_tau later hreset hopen hcancel hrx htau)
  · exact taken (arbitrate_tick later hreset hopen hcancel hrx htau htick)
  · exact taken (arbitrate_command later hreset hopen hcancel hrx htau htick hc)

/-- Settles O51: whatever event is fetched, the only fault is shut out by the invariant. -/
theorem noErrorStopsTheBlock : Obligations.NoErrorStopsTheBlock := by
  unfold Obligations.NoErrorStopsTheBlock
  exact fun s => step_next

/-- Settles O47: the row is the delivery, whether the present instant has been begun or not. -/
theorem subscribedReadDeliversABlock : Obligations.SubscribedReadDeliversABlock := by
  unfold Obligations.SubscribedReadDeliversABlock
  exact fun s block => congrArg Host.Outcome.next (deliver_eq block s)

end Sys2Proof.Proofs
end

section
/-! What the block's reset leaves (R330, R332): the rule the obligation O10 rests on. -/

namespace Sys2Proof.Machine

/-- A reset presented is the event processed, so the next state is the block's reset with the event taken. -/
theorem step_present_reset (s : State) :
    step (s.present .reset) = .next (resetBlock { s with presented := none }) :=
  step_present .reset s nofun

end Sys2Proof.Machine

namespace Sys2Proof.Proofs

open Machine

/-- Settles O10: the step is the block's reset, which takes only the configuration, the Transport's fields and the
model's own fields from the state before; every register is that of `State.reset`. -/
theorem resetClearsTheBlockAndNotTheTransport : Obligations.ResetClearsTheBlockAndNotTheTransport := by
  unfold Obligations.ResetClearsTheBlockAndNotTheTransport
  intro s
  rw [step_present_reset]
  simp only [resetBlock, State.reset]

end Sys2Proof.Proofs
end
